-- ==== Sys2Proof/Word.lean ====
section
/-! DEFINITION. The widths of 00_scope.md rule R7 and the type of a thing there are three of. -/

namespace Sys2Proof

/-- A byte: 8 bits (00 R7). -/
abbrev Byte := BitVec 8

/-- An address, the program counter, a 16-bit quantity (00 R7). -/
abbrev Word := BitVec 16

/-- A voice number 0, 1, 2 (00 R16). -/
abbrev VoiceId := Fin 3

/-- One value for each of the three voices (10 R37). -/
structure PerVoice (α : Type) where
  v0 : α
  v1 : α
  v2 : α
  deriving DecidableEq, Repr

/-- The same value for every voice. -/
def PerVoice.all {α : Type} (x : α) : PerVoice α := ⟨x, x, x⟩

/-- The value of voice `v`. -/
def PerVoice.get {α : Type} (t : PerVoice α) : VoiceId → α
  | 0 => t.v0
  | 1 => t.v1
  | 2 => t.v2

/-- The value of voice `v` replaced. -/
def PerVoice.set {α : Type} (t : PerVoice α) (v : VoiceId) (x : α) : PerVoice α :=
  match v with
  | 0 => { t with v0 := x }
  | 1 => { t with v1 := x }
  | 2 => { t with v2 := x }

/-- The table of a function of the voice number. -/
def PerVoice.ofFn {α : Type} (f : VoiceId → α) : PerVoice α := ⟨f 0, f 1, f 2⟩

end Sys2Proof
end

