-- ==== Sys2Proof/Machine/Number.lean ====
section
/-! DEFINITION. The numbers of the engine and the scheduler. The spec types them as real (00 R6, R14), so a number is a real
number: a rational one is held as itself and computed with, an irrational value of a parameter is held by its number in
`RealValues.irrational`, and what is computed from such a value is held as the sum, difference, product or quotient that
the rule writes. State stays plain data, and each number stands for one real number, `Number.eval` (log 37). -/

namespace Sys2Proof.Machine

/-- The filter's mode (10 R38). -/
inductive FilterMode
  | off
  | lp
  | bp
  | hp
  deriving DecidableEq, Repr

/-- What the filter's step is a function of (47 R300): its state, cutoff, resonance, mode, sample rate and input. -/
structure FilterIn (α β : Type) where
  low : α
  band : α
  cutoff : β
  res : β
  mode : FilterMode
  fs : β
  x : β
  deriving DecidableEq, Repr

/-- The filter's state and output after one sample (47 R300). -/
structure FilterOut (α : Type) where
  low : α
  band : α
  y : α
  deriving DecidableEq, Repr

/-- The real numbers that the spec leaves open: the irrational values of parameters, quotients by 0, and what a replacement
of FILTER computes. -/
structure RealValues where
  /-- The irrational numbers that parameters may have, each under a number (00 R6; log 37). -/
  irrational : Nat → ℝ
  /-- The quotient of a number by 0, which has no value in the reals; the spec asks for it where a divisor that 00 R6 bounds
  by nothing, such as a frame rate, is 0 (log 31). -/
  quotientByZero : ℝ → ℝ
  /-- The replacements of FILTER, each under a number: any functions that meet the requirements of 47 R300 (log 28). -/
  filter : Nat → FilterIn ℝ ℝ → FilterOut ℝ
  /-- With no input, a filter at rest stays at rest and its output is 0 (47 R300). -/
  filter_rest : ∀ n i, i.x = 0 → i.low = 0 → i.band = 0 → filter n i = { low := 0, band := 0, y := 0 }
  /-- In mode Off the output is 0 (47 R300). -/
  filter_off : ∀ n i, i.mode = .off → (filter n i).y = 0

/-- A number of the engine or the scheduler. -/
inductive Number
  /-- A rational number. -/
  | rat (q : Rat)
  /-- An irrational value of a parameter. -/
  | irrational (n : Nat)
  | sum (x y : Number)
  | difference (x y : Number)
  | product (x y : Number)
  | quotient (x y : Number)
  deriving DecidableEq, Repr

/-- The real number that a number stands for. -/
noncomputable def Number.eval (v : RealValues) : Number → ℝ
  | .rat q => (q : ℝ)
  | .irrational n => v.irrational n
  | .sum x y => x.eval v + y.eval v
  | .difference x y => x.eval v - y.eval v
  | .product x y => x.eval v * y.eval v
  | .quotient x y => if y.eval v = 0 then v.quotientByZero (x.eval v) else x.eval v / y.eval v

/-- A natural number. -/
def Number.nat (n : Nat) : Number := .rat n

/-- The number, if it is held as a rational one. -/
def Number.rational : Number → Option Rat
  | .rat q => some q
  | .irrational _ | .sum _ _ | .difference _ _ | .product _ _ | .quotient _ _ => none

/-- The sum. -/
def Number.add (x y : Number) : Number :=
  match x.rational, y.rational with
  | some a, some b => .rat (a + b)
  | _, _ => .sum x y

/-- The difference. -/
def Number.sub (x y : Number) : Number :=
  match x.rational, y.rational with
  | some a, some b => .rat (a - b)
  | _, _ => .difference x y

/-- The product; with a factor held as 0 it is held as 0. -/
def Number.mul (x y : Number) : Number :=
  match x.rational, y.rational with
  | some a, some b => .rat (a * b)
  | _, _ => if x = .rat 0 ∨ y = .rat 0 then .rat 0 else .product x y

/-- The quotient; by 0 it is an open value (log 31). -/
def Number.div (x y : Number) : Number :=
  match x.rational, y.rational with
  | some a, some b => if b = 0 then .quotient x y else .rat (a / b)
  | _, _ => .quotient x y

/-- A power. -/
def Number.pow (x : Number) : Nat → Number
  | 0 => .rat 1
  | n + 1 => (x.pow n).mul x

end Sys2Proof.Machine
end

