-- ==== Sys2Proof/Machine/FilterNum.lean ====
section
/-! DEFINITION. The numbers of the filter. The filter's coefficient is `F = 2 * sin(pi * r)` for `r = min(fc, fs / 6) / fs`
(47 R300), and a replacement of FILTER is any function of numbers, so the filter's state and its output are held as the
sums, multiples and results that the rule writes. No rule compares one or takes its floor (log 6). -/

namespace Sys2Proof.Machine

/-- The results of FILTER. -/
inductive FilterPart
  | low
  | band
  | y
  deriving DecidableEq, Repr

/-- That result. -/
def FilterOut.part {α : Type} (o : FilterOut α) : FilterPart → α
  | .low => o.low
  | .band => o.band
  | .y => o.y

/-- A number of the filter. -/
inductive FilterReal
  | number (x : Number)
  | sum (x y : FilterReal)
  | multiple (q : Number) (x : FilterReal)
  /-- The product of `x` with `2 * sin(pi * r)`. -/
  | sine (r : Number) (x : FilterReal)
  /-- A result of replacement `n` of FILTER. -/
  | replaced (n : Nat) (part : FilterPart) (low band : FilterReal) (cutoff res : Number) (mode : FilterMode) (fs x : Number)
  deriving DecidableEq, Repr

/-- The filter's coefficient for the argument `r` (47 R300). -/
noncomputable def filterCoeff (r : ℝ) : ℝ := 2 * Real.sin (Real.pi * r)

/-- The real number that it stands for. -/
noncomputable def FilterReal.eval (v : RealValues) : FilterReal → ℝ
  | .number x => x.eval v
  | .sum x y => x.eval v + y.eval v
  | .multiple q x => q.eval v * x.eval v
  | .sine r x => filterCoeff (r.eval v) * x.eval v
  | .replaced n part low band cutoff res mode fs x =>
    (v.filter n
      { low := low.eval v
        band := band.eval v
        cutoff := cutoff.eval v
        res := res.eval v
        mode := mode
        fs := fs.eval v
        x := x.eval v }).part part

/-- Zero. -/
def FilterReal.zero : FilterReal := .number (.rat 0)

/-- The sum. -/
def FilterReal.add (x y : FilterReal) : FilterReal :=
  match x, y with
  | .number a, .number b => .number (a.add b)
  | _, _ => .sum x y

/-- A multiple. -/
def FilterReal.scale (q : Number) (x : FilterReal) : FilterReal :=
  match x with
  | .number a => .number (q.mul a)
  | _ => .multiple q x

/-- The product with `2 * sin(pi * r)`; for r = 1/6 that factor is 1, and with 0 the product is held as 0. -/
def FilterReal.mulSin (r : Number) (x : FilterReal) : FilterReal :=
  if r = .rat (1 / 6) then x else if x = FilterReal.zero then FilterReal.zero else .sine r x

/-- The results of replacement `n` of FILTER. -/
def FilterIn.replaced (n : Nat) (i : FilterIn FilterReal Number) : FilterOut FilterReal where
  low := .replaced n .low i.low i.band i.cutoff i.res i.mode i.fs i.x
  band := .replaced n .band i.low i.band i.cutoff i.res i.mode i.fs i.x
  y := .replaced n .y i.low i.band i.cutoff i.res i.mode i.fs i.x

end Sys2Proof.Machine
end

