-- ==== Sys2Proof/Machine/Tempered.lean ====
section
/-! DEFINITION. The numbers that equal-tempered pitch needs. A voice's frequency is `440 * 2^((n - 69) / 12)` (47 R281), and
its phase is a sum of multiples of such numbers, so every `hz` and `phase` is a sum of `2^(k/12)` for k = 0 .. 11 with
coefficients that are numbers. That sum is plain data. Its floor, where the coefficients are rational, is computed here from
rational bounds (log 5). -/

namespace Sys2Proof.Machine

/-- The real number `2^(k/12)`. -/
noncomputable def twelfth (k : Nat) : ℝ := (2 : ℝ) ^ ((k : ℝ) / 12)

/-- The number `sum over k < 12 of coeff[k] * 2^(k/12)`. -/
structure TemperedReal where
  coeff : Vector Number 12
  deriving DecidableEq, Repr

/-- The real number that it stands for. -/
noncomputable def TemperedReal.eval (v : RealValues) (x : TemperedReal) : ℝ :=
  ∑ k : Fin 12, x.coeff[k].eval v * twelfth k

/-- `q * 2^(k/12)`. -/
def TemperedReal.single (k : Nat) (q : Number) : TemperedReal :=
  ⟨Vector.ofFn fun i : Fin 12 => if i.val = k then q else .rat 0⟩

/-- A number without the powers. -/
def TemperedReal.ofNumber (x : Number) : TemperedReal := TemperedReal.single 0 x

/-- The number, if it is held without the powers. -/
def TemperedReal.number (x : TemperedReal) : Option Number :=
  if x = TemperedReal.ofNumber x.coeff[0] then some x.coeff[0] else none

/-- The sum. -/
def TemperedReal.add (x y : TemperedReal) : TemperedReal := ⟨Vector.zipWith Number.add x.coeff y.coeff⟩

/-- A multiple. -/
def TemperedReal.scale (q : Number) (x : TemperedReal) : TemperedReal := ⟨x.coeff.map q.mul⟩

/-- The quotient by a number. -/
def TemperedReal.divide (x : TemperedReal) (q : Number) : TemperedReal := ⟨x.coeff.map fun a => a.div q⟩

/-- The largest `r` with `r^12 ≤ n` among those that agree with `r0` above bit `bits`. -/
def twelfthRoot (n : Nat) : Nat → Nat → Nat
  | 0, r0 => if (r0 + 1) ^ 12 ≤ n then r0 + 1 else r0
  | bits + 1, r0 => twelfthRoot n bits (if (r0 + 2 ^ (bits + 1)) ^ 12 ≤ n then r0 + 2 ^ (bits + 1) else r0)

/-- The floor of `2^p * 2^(k/12)`. -/
def pow2Twelfth (p k : Nat) : Nat := twelfthRoot (2 ^ (12 * p + k)) (p + 1) 0

/-- A rational at or below `c * 2^(k/12)`, to `p` bits; the number itself when k = 0. -/
def termLower (p : Nat) (c : Rat) (k : Nat) : Rat :=
  if k = 0 then c
  else if 0 ≤ c then c * pow2Twelfth p k / 2 ^ p
  else c * (pow2Twelfth p k + 1) / 2 ^ p

/-- A rational at or above `c * 2^(k/12)`, to `p` bits; the number itself when k = 0. -/
def termUpper (p : Nat) (c : Rat) (k : Nat) : Rat :=
  if k = 0 then c
  else if 0 ≤ c then c * (pow2Twelfth p k + 1) / 2 ^ p
  else c * pow2Twelfth p k / 2 ^ p

/-- The sum of `f` over a list of coefficients and their index. -/
def sumTerms (f : Rat → Nat → Rat) : List Rat → Nat → Rat
  | [], _ => 0
  | c :: cs, k => (if c = 0 then 0 else f c k) + sumTerms f cs (k + 1)

/-- A rational at or below the number with the coefficients `cs`. -/
def lowerSum (p : Nat) (cs : List Rat) : Rat := sumTerms (termLower p) cs 0

/-- A rational at or above the number. -/
def upperSum (p : Nat) (cs : List Rat) : Rat := sumTerms (termUpper p) cs 0

/-- The floor, by doubling the precision until the bounds decide it, `fuel` times at most. -/
def floorWithin (cs : List Rat) : Nat → Nat → Option Int
  | 0, _ => none
  | fuel + 1, p =>
    if (lowerSum p cs).floor = (upperSum p cs).floor then some (lowerSum p cs).floor else floorWithin cs fuel (2 * p)

/-- The coefficients, if all are rational. -/
def rationals : List Number → Option (List Rat)
  | [] => some []
  | x :: xs =>
    match x.rational, rationals xs with
    | some q, some qs => some (q :: qs)
    | _, _ => none

/-- `440 * 2^((n - 69) / 12)`, the frequency of MIDI note `n` (47 R281): `n - 69 = 12 * ((n + 3) / 12 - 6) + (n + 3) % 12`. -/
def noteHz (n : Fin 128) : TemperedReal :=
  TemperedReal.single ((n.val + 3) % 12) (.rat (440 * 2 ^ ((n.val + 3) / 12) / 64))

end Sys2Proof.Machine
end

