-- ==== Sys2Proof/Machine/TemperedFloor.lean ====
section
/-! DEFINITION. Why the floor of a number of Tempered.lean with rational coefficients can be computed: its rational bounds
enclose it and come as near as one likes, and it is an integer only where it is held as one, since the powers `2^(k/12)`
are independent over the rationals. So some precision decides the floor (`exists_decided`), and `searchFloor` finds it. -/

namespace Sys2Proof.Machine

open Polynomial

/-- `twelfthRoot` is the floor of the twelfth root. -/
theorem twelfthRoot_spec (n : Nat) :
    ∀ bits r0, r0 ^ 12 ≤ n → n < (r0 + 2 ^ (bits + 1)) ^ 12 →
      (twelfthRoot n bits r0) ^ 12 ≤ n ∧ n < (twelfthRoot n bits r0 + 1) ^ 12
  | 0, r0, h1, h2 => by
    unfold twelfthRoot
    split
    · exact ⟨by assumption, h2⟩
    · exact ⟨h1, by omega⟩
  | bits + 1, r0, h1, h2 => by
    unfold twelfthRoot
    split
    · refine twelfthRoot_spec n bits _ (by assumption) ?_
      rw [add_assoc, ← two_mul, ← pow_succ']
      exact h2
    · exact twelfthRoot_spec n bits _ h1 (by omega)

/-- `pow2Twelfth p k` is the floor of the twelfth root of `2^(12 * p + k)`. -/
theorem pow2Twelfth_spec (p : Nat) {k : Nat} (hk : k < 12) :
    (pow2Twelfth p k) ^ 12 ≤ 2 ^ (12 * p + k) ∧ 2 ^ (12 * p + k) < (pow2Twelfth p k + 1) ^ 12 := by
  apply twelfthRoot_spec
  · exact Nat.zero_le _
  · rw [zero_add, ← pow_mul]
    exact Nat.pow_lt_pow_right (by norm_num) (by omega)

theorem twelfth_pow (k : Nat) : twelfth k ^ 12 = 2 ^ k := by
  unfold twelfth
  rw [← Real.rpow_natCast, ← Real.rpow_mul (by norm_num), ← Real.rpow_natCast]
  congr 1; push_cast; ring

theorem twelfth_pos (k : Nat) : 0 < twelfth k := Real.rpow_pos_of_pos (by norm_num) _

/-- Its quotient by `2^p` encloses `2^(k/12)` to `p` bits. -/
theorem pow2Twelfth_real (p : Nat) {k : Nat} (hk : k < 12) :
    (pow2Twelfth p k : ℝ) / 2 ^ p ≤ twelfth k ∧ twelfth k ≤ ((pow2Twelfth p k : ℝ) + 1) / 2 ^ p := by
  obtain ⟨h1, h2⟩ := pow2Twelfth_spec p hk
  have e : ((2 : ℝ) ^ p * twelfth k) ^ 12 = 2 ^ (12 * p + k) := by
    rw [mul_pow, twelfth_pow, ← pow_mul, ← pow_add, mul_comm p]
  have pos : (0:ℝ) < 2 ^ p := by positivity
  have h1' : ((pow2Twelfth p k : ℝ)) ^ 12 ≤ (2 ^ p * twelfth k) ^ 12 := by rw [e]; exact_mod_cast h1
  have h2' : (2 ^ p * twelfth k) ^ 12 ≤ ((pow2Twelfth p k : ℝ) + 1) ^ 12 := by rw [e]; exact_mod_cast h2.le
  have t := (twelfth_pos k).le
  constructor
  · rw [div_le_iff₀ pos, mul_comm]
    exact le_of_pow_le_pow_left₀ (by norm_num) (by positivity) h1'
  · rw [le_div_iff₀ pos, mul_comm]
    exact le_of_pow_le_pow_left₀ (by norm_num) (by positivity) h2'

/-- The real number with the rational coefficients `cs`, from power `k` on. -/
noncomputable def temperedSum : List Rat → Nat → ℝ
  | [], _ => 0
  | c :: cs, k => c * twelfth k + temperedSum cs (k + 1)

/-- The bounds of one summand, and how near they are. -/
theorem term_bounds (p : Nat) (c : Rat) {k : Nat} (hk : k < 12) :
    ((termLower p c k : ℚ) : ℝ) ≤ c * twelfth k ∧ (c : ℝ) * twelfth k ≤ ((termUpper p c k : ℚ) : ℝ) ∧
      ((termUpper p c k : ℚ) : ℝ) - ((termLower p c k : ℚ) : ℝ) ≤ |(c : ℝ)| / 2 ^ p := by
  obtain ⟨h1, h2⟩ := pow2Twelfth_real p hk
  unfold termLower termUpper
  by_cases h0 : k = 0
  · subst h0; simp [twelfth]; positivity
  · rw [if_neg h0, if_neg h0]
    by_cases hc : 0 ≤ c
    · have hc' : (0 : ℝ) ≤ c := by exact_mod_cast hc
      rw [if_pos hc, if_pos hc, abs_of_nonneg hc']
      push_cast
      rw [mul_div_assoc, mul_div_assoc]
      refine ⟨mul_le_mul_of_nonneg_left h1 hc', mul_le_mul_of_nonneg_left h2 hc', le_of_eq ?_⟩
      ring
    · have hc' : (c : ℝ) ≤ 0 := by exact_mod_cast (not_le.mp hc).le
      rw [if_neg hc, if_neg hc, abs_of_nonpos hc']
      push_cast
      rw [mul_div_assoc, mul_div_assoc]
      refine ⟨mul_le_mul_of_nonpos_left h2 hc', mul_le_mul_of_nonpos_left h1 hc', le_of_eq ?_⟩
      ring

/-- The sum of the sizes of the coefficients. -/
noncomputable def absSum : List Rat → ℝ
  | [] => 0
  | c :: cs => |(c : ℝ)| + absSum cs

/-- The bounds of the sum, and how near they are. -/
theorem sum_bounds (p : Nat) : ∀ (cs : List Rat) (k : Nat), k + cs.length ≤ 12 →
    ((sumTerms (termLower p) cs k : ℚ) : ℝ) ≤ temperedSum cs k ∧
      temperedSum cs k ≤ ((sumTerms (termUpper p) cs k : ℚ) : ℝ) ∧
      ((sumTerms (termUpper p) cs k : ℚ) : ℝ) - ((sumTerms (termLower p) cs k : ℚ) : ℝ) ≤ absSum cs / 2 ^ p
  | [], k, _ => by simp [sumTerms, temperedSum, absSum]
  | c :: cs, k, h => by
    rw [List.length_cons] at h
    obtain ⟨a1, a2, a3⟩ := term_bounds p c (k := k) (by omega)
    obtain ⟨b1, b2, b3⟩ := sum_bounds p cs (k + 1) (by omega)
    unfold sumTerms temperedSum absSum
    by_cases hc : c = 0
    · subst hc
      simp only [if_true]
      push_cast
      simp only [zero_add, zero_mul, abs_zero]
      exact ⟨b1, b2, b3⟩
    · rw [if_neg hc, if_neg hc]
      push_cast
      rw [add_div]
      exact ⟨by linarith, by linarith, by linarith⟩

/-- `X^12 - 2` is irreducible over the rationals, by Eisenstein's criterion at 2. -/
theorem twelfth_irreducible : Irreducible (X ^ 12 - C 2 : ℚ[X]) := by
  have h : Irreducible (X ^ 12 - C 2 : ℤ[X]) := by
    have hp : (Ideal.span {(2 : ℤ)}).IsPrime := by
      rw [Ideal.span_singleton_prime (by norm_num)]; exact Int.prime_two
    have hm : (X ^ 12 - C 2 : ℤ[X]).Monic := monic_X_pow_sub_C _ (by norm_num)
    refine irreducible_of_eisenstein_criterion hp ?_ ?_ ?_ ?_ hm.isPrimitive
    · rw [hm.leadingCoeff]
      intro h; exact hp.ne_top ((Ideal.eq_top_iff_one _).mpr h)
    · intro n hn
      rw [degree_X_pow_sub_C (by norm_num)] at hn
      have hn' : n < 12 := by exact_mod_cast hn
      rw [coeff_sub, coeff_X_pow, if_neg (by omega), coeff_C]
      split
      · rw [Ideal.mem_span_singleton]; norm_num
      · simp
    · rw [degree_X_pow_sub_C (by norm_num)]; norm_num
    · rw [coeff_sub, coeff_X_pow, coeff_C, if_neg (by norm_num), if_pos rfl, Ideal.span_singleton_pow, Ideal.mem_span_singleton]
      norm_num
  have e : (X ^ 12 - C 2 : ℤ[X]).map (Int.castRingHom ℚ) = X ^ 12 - C 2 := by
    rw [Polynomial.map_sub, Polynomial.map_pow, map_X, map_C]
    rfl
  rw [← e]
  exact (IsPrimitive.Int.irreducible_iff_irreducible_map_cast (monic_X_pow_sub_C (2 : ℤ) (by norm_num)).isPrimitive).mp h

theorem twelfth_eq_pow (k : Nat) : twelfth k = twelfth 1 ^ k := by
  unfold twelfth
  rw [← Real.rpow_natCast, ← Real.rpow_mul (by norm_num)]
  congr 1; push_cast; ring

/-- So it is the minimal polynomial of `2^(1/12)`. -/
theorem twelfth_minpoly : minpoly ℚ (twelfth 1) = X ^ 12 - C 2 := by
  symm
  apply minpoly.eq_of_irreducible_of_monic twelfth_irreducible
  · have := twelfth_pow 1
    simp [this]
  · exact monic_X_pow_sub_C _ (by norm_num)

/-- The polynomial with the coefficients `cs`. -/
noncomputable def temperedPoly : List Rat → ℚ[X]
  | [] => 0
  | c :: cs => C c + X * temperedPoly cs

/-- The number is that polynomial at `2^(1/12)`. -/
theorem temperedPoly_aeval : ∀ (cs : List Rat) (k : Nat),
    aeval (twelfth 1) (temperedPoly cs) * twelfth 1 ^ k = temperedSum cs k
  | [], k => by simp [temperedPoly, temperedSum]
  | c :: cs, k => by
    have h := temperedPoly_aeval cs (k + 1)
    unfold temperedPoly temperedSum
    rw [← h, twelfth_eq_pow k]
    simp only [map_add, map_mul, aeval_C, aeval_X]
    simp
    ring

theorem temperedPoly_degree : ∀ cs : List Rat, (temperedPoly cs).degree < (cs.length : WithBot ℕ)
  | [] => by simp [temperedPoly]
  | c :: cs => by
    have h := temperedPoly_degree cs
    rw [Polynomial.degree_lt_iff_coeff_zero] at h ⊢
    intro m hm
    unfold temperedPoly
    rw [List.length_cons] at hm
    obtain ⟨m, rfl⟩ : ∃ l, m = l + 1 := ⟨m - 1, by omega⟩
    rw [coeff_add, coeff_X_mul, h m (by omega), coeff_C, if_neg (by omega), add_zero]

theorem temperedPoly_zero : ∀ cs : List Rat, temperedPoly cs = 0 → ∀ c ∈ cs, c = 0
  | [], _ => by simp
  | c :: cs, h => by
    unfold temperedPoly at h
    have h0 := congrArg (coeff · 0) h
    simp at h0
    subst h0
    have h1 : temperedPoly cs = 0 := by simpa using h
    intro d hd
    rcases List.mem_cons.mp hd with rfl | hd
    · rfl
    · exact temperedPoly_zero cs h1 d hd

/-- The number is an integer only if every coefficient but that of `2^0` is 0. -/
theorem tempered_independent {c : Rat} {cs : List Rat} (hl : cs.length < 12) {m : Int}
    (h : temperedSum (c :: cs) 0 = m) : ∀ d ∈ cs, d = 0 := by
  have ha : aeval (twelfth 1) (temperedPoly ((c - m) :: cs)) = 0 := by
    have h1 := temperedPoly_aeval ((c - m) :: cs) 0
    rw [pow_zero, mul_one] at h1
    rw [h1]
    unfold temperedSum at h ⊢
    have : twelfth 0 = 1 := by simp [twelfth]
    rw [this] at h ⊢
    push_cast
    linarith
  have hp : temperedPoly ((c - m) :: cs) = 0 := by
    by_contra hne
    have hd := minpoly.degree_le_of_ne_zero ℚ (twelfth 1) hne ha
    rw [twelfth_minpoly, degree_X_pow_sub_C (by norm_num)] at hd
    have hq := temperedPoly_degree ((c - m) :: cs)
    rw [List.length_cons] at hq
    have := lt_of_le_of_lt hd hq
    have : 12 < cs.length + 1 := by exact_mod_cast this
    omega
  intro d hd
  exact temperedPoly_zero _ hp d (List.mem_cons_of_mem _ hd)

theorem sumTerms_zero (f : Rat → Nat → Rat) : ∀ (cs : List Rat) (k : Nat), (∀ c ∈ cs, c = 0) → sumTerms f cs k = 0
  | [], _, _ => rfl
  | c :: cs, k, h => by
    unfold sumTerms
    rw [if_pos (h c (by simp)), sumTerms_zero f cs (k + 1) fun d hd => h d (by simp [hd]), add_zero]

/-- Some precision decides the floor. -/
theorem exists_decided (cs : List Rat) (hl : cs.length = 12) :
    ∃ p, (lowerSum p cs).floor = (upperSum p cs).floor := by
  unfold lowerSum upperSum
  by_cases hi : temperedSum cs 0 = (⌊temperedSum cs 0⌋ : Int)
  · obtain ⟨c, ds, rfl⟩ : ∃ c ds, cs = c :: ds := List.exists_cons_of_ne_nil (by rintro rfl; simp at hl)
    have hz := tempered_independent (by rw [List.length_cons] at hl; omega) hi
    refine ⟨0, ?_⟩
    unfold sumTerms
    rw [sumTerms_zero _ ds _ hz, sumTerms_zero _ ds _ hz]
    rfl
  · have h1 := Int.floor_le (temperedSum cs 0)
    have h2 := Int.lt_floor_add_one (temperedSum cs 0)
    have h1' := lt_of_le_of_ne h1 (Ne.symm hi)
    set x := temperedSum cs 0
    obtain ⟨p, hp⟩ := pow_unbounded_of_one_lt (absSum cs / min (x - ⌊x⌋) (⌊x⌋ + 1 - x)) (one_lt_two (α := ℝ))
    have hd : 0 < min (x - ⌊x⌋) (⌊x⌋ + 1 - x) := lt_min (by linarith) (by linarith)
    have hq : absSum cs / 2 ^ p < min (x - ⌊x⌋) (⌊x⌋ + 1 - x) := by
      rw [div_lt_iff₀ (by positivity)]
      rw [div_lt_iff₀ hd] at hp
      linarith
    obtain ⟨b1, b2, b3⟩ := sum_bounds p cs 0 (by omega)
    have hm1 := min_le_left (x - ⌊x⌋) (⌊x⌋ + 1 - x)
    have hm2 := min_le_right (x - ⌊x⌋) (⌊x⌋ + 1 - x)
    refine ⟨p, ?_⟩
    have e1 : (sumTerms (termLower p) cs 0).floor = ⌊x⌋ := by
      have a1 : ((⌊x⌋ : ℚ) : ℝ) ≤ ((sumTerms (termLower p) cs 0 : ℚ) : ℝ) := by push_cast; linarith
      have a2 : ((sumTerms (termLower p) cs 0 : ℚ) : ℝ) < ((⌊x⌋ + 1 : ℚ) : ℝ) := by push_cast; linarith
      exact Int.floor_eq_iff.mpr ⟨by exact_mod_cast a1, by exact_mod_cast a2⟩
    have e2 : (sumTerms (termUpper p) cs 0).floor = ⌊x⌋ := by
      have a1 : ((⌊x⌋ : ℚ) : ℝ) ≤ ((sumTerms (termUpper p) cs 0 : ℚ) : ℝ) := by push_cast; linarith
      have a2 : ((sumTerms (termUpper p) cs 0 : ℚ) : ℝ) < ((⌊x⌋ + 1 : ℚ) : ℝ) := by push_cast; linarith
      exact Int.floor_eq_iff.mpr ⟨by exact_mod_cast a1, by exact_mod_cast a2⟩
    rw [e1, e2]

/-- Where the bounds have the same floor, it is that of the number. -/
theorem floor_of_decided {p : Nat} {cs : List Rat} (hl : cs.length = 12)
    (h : (lowerSum p cs).floor = (upperSum p cs).floor) : (lowerSum p cs).floor = ⌊temperedSum cs 0⌋ := by
  obtain ⟨b1, b2, -⟩ := sum_bounds p cs 0 (by omega)
  have h1 := Int.floor_mono b1
  have h2 := Int.floor_mono b2
  rw [Rat.floor_cast] at h1 h2
  exact le_antisymm h1 (h2.trans (le_of_eq h.symm))

/-- The floor of the number with the rational coefficients `cs`, by looking for a precision that decides it. -/
def searchFloor (cs : List Rat) (hl : cs.length = 12) : Int := (lowerSum (Nat.find (exists_decided cs hl)) cs).floor

theorem searchFloor_eq (cs : List Rat) (hl : cs.length = 12) : searchFloor cs hl = ⌊temperedSum cs 0⌋ :=
  floor_of_decided hl (Nat.find_spec (exists_decided cs hl))

/-- The sum over a list of coefficients is the sum over their indices. -/
theorem temperedSum_ofFn : ∀ (n : Nat) (f : Fin n → Rat) (k : Nat),
    temperedSum (List.ofFn f) k = ∑ i : Fin n, (f i : ℝ) * twelfth (k + i)
  | 0, _, _ => by simp [temperedSum]
  | n + 1, f, k => by
    rw [List.ofFn_succ, Fin.sum_univ_succ]
    unfold temperedSum
    rw [temperedSum_ofFn n]
    congr 1
    refine Finset.sum_congr rfl fun i _ => ?_
    rw [Fin.val_succ, add_assoc, add_comm 1]

end Sys2Proof.Machine
end

