-- ==== Sys2Proof/Machine/OpenReals.lean ====
section
/-! DEFINITION. What a run must be told of the real numbers that the spec leaves open: how they compare and which floors they
have, as 46 R242, 47 R291, R293, R297 and 49 R344 ask. The answers are tied to the numbers by `OpenReals.le_iff` and
`OpenReals.floor_eq`, so they leave nothing open beside the numbers themselves (log 37). -/

namespace Sys2Proof.Machine

/-- Real numbers that the spec leaves open, with the order and the floors of all numbers computed from them. -/
structure OpenReals extends RealValues where
  /-- Whether a number is at most another. -/
  le : Number → Number → Bool
  le_iff : ∀ x y, le x y = true ↔ x.eval toRealValues ≤ y.eval toRealValues
  /-- The floor of a number. -/
  floor : TemperedReal → Int
  floor_eq : ∀ x, floor x = ⌊x.eval toRealValues⌋

/-- The value of a number where every open one is 0. -/
def Number.closedValue : Number → Rat
  | .rat q => q
  | .irrational _ => 0
  | .sum x y => x.closedValue + y.closedValue
  | .difference x y => x.closedValue - y.closedValue
  | .product x y => x.closedValue * y.closedValue
  | .quotient x y => x.closedValue / y.closedValue

/-- Every open number is 0. -/
def RealValues.zero : RealValues where
  irrational _ := 0
  quotientByZero _ := 0
  filter _ _ := { low := 0, band := 0, y := 0 }
  filter_rest _ _ _ _ _ := rfl
  filter_off _ _ _ := rfl

theorem Number.eval_zero (x : Number) : x.eval RealValues.zero = (x.closedValue : ℝ) := by
  induction x with
  | rat q => rfl
  | irrational n => exact Rat.cast_zero.symm
  | sum x y hx hy => simp only [Number.eval, Number.closedValue, hx, hy, Rat.cast_add]
  | difference x y hx hy => simp only [Number.eval, Number.closedValue, hx, hy, Rat.cast_sub]
  | product x y hx hy => simp only [Number.eval, Number.closedValue, hx, hy, Rat.cast_mul]
  | quotient x y hx hy =>
    simp only [Number.eval, Number.closedValue, hx, hy, Rat.cast_div]
    split
    · rename_i h
      rw [h, div_zero]
      rfl
    · rfl

/-- The coefficients where every open number is 0. -/
def TemperedReal.closedValues (x : TemperedReal) : List Rat := List.ofFn fun k : Fin 12 => x.coeff[k].closedValue

theorem TemperedReal.closedValues_length (x : TemperedReal) : x.closedValues.length = 12 := List.length_ofFn

theorem TemperedReal.eval_zero (x : TemperedReal) : x.eval RealValues.zero = temperedSum x.closedValues 0 := by
  unfold TemperedReal.closedValues TemperedReal.eval
  rw [temperedSum_ofFn]
  refine Finset.sum_congr rfl fun k _ => ?_
  rw [Number.eval_zero, zero_add]

/-- The open numbers where each is 0: the order and the floors are then computed. -/
def OpenReals.zero : OpenReals where
  toRealValues := RealValues.zero
  le x y := decide (x.closedValue ≤ y.closedValue)
  le_iff x y := by rw [Number.eval_zero, Number.eval_zero, decide_eq_true_eq, Rat.cast_le]
  floor x := searchFloor x.closedValues x.closedValues_length
  floor_eq x := by rw [TemperedReal.eval_zero, searchFloor_eq]

/-- Whatever the open numbers are, there are such answers for them. -/
theorem exists_openReals (v : RealValues) : ∃ r : OpenReals, r.toRealValues = v := by
  classical
  exact ⟨{ v with
    le := fun x y => decide (x.eval v ≤ y.eval v)
    le_iff := fun x y => decide_eq_true_iff
    floor := fun x => ⌊x.eval v⌋
    floor_eq := fun _ => rfl }, rfl⟩

end Sys2Proof.Machine
end

