-- ==== Sys2Proof/Config.lean ====
section
/-! DEFINITION. What is fixed for one machine: the parameters of 00_scope.md rule R6, and the values the spec leaves open.
The parameters stand in the state (`State.params`), so a claim about every state is a claim about every value of them; no
step changes them. A parameter that is a function of bytes is held as its table; FILTER and NUM, functions of real
numbers, are held as a choice between the spec's own function and a function without a body (log 1). A parameter typed real
is a `Number`, which stands for any real number (log 37). -/

namespace Sys2Proof

open Machine (Number TemperedReal FilterReal FilterMode OpenReals)

/-- A length that UNSUP_LEN may give (00 R6). -/
inductive UnsupLength
  | one
  | two
  | three
  deriving DecidableEq, Repr

/-- A function of a byte as its table: high nibble down, low nibble across, as the opcode matrix of 30 R95. -/
abbrev ByteTable (α : Type) := Vector (Vector α 16) 16

/-- The values of SP_GUARD (49 R338). -/
inductive SpGuard
  /-- The default: the stack pointer is above its value at the burst's entry, or 128 or more below it. -/
  | aboveEntry
  /-- A replacement, by the pairs `(sp_in, sp)` for which it holds; every predicate of two bytes has such a list. -/
  | heldBy (pairs : List (Byte × Byte))
  deriving DecidableEq, Repr

/-- The values of FILTER (47 R300). -/
inductive FilterChoice
  /-- The default: the state-variable filter. -/
  | stateVariable
  /-- A replacement, told apart by its number; `RealValues.filter` is what it computes (log 28). -/
  | replacement (n : Nat)
  deriving DecidableEq, Repr

/-- The values of NUM, the numeric domain of the engine and the scheduler (47 R303, 93 I21). -/
inductive NumDomain
  /-- The default, the reference semantics: exact reals. -/
  | exact
  /-- A domain of rational numbers, such as a floating-point format, in which the result of every operation is rounded;
  told apart by its number, `Config.round` and the constants after it being its rounding; the integers below `2 ^ 24` in
  size are among its numbers (49 R346; log 34). -/
  | rounding (n : Nat)
  deriving DecidableEq, Repr

/-- MAX_CYCLES has no value in the spec (49 R336, 92 D40: OPEN), so this constant has no body and nothing can be
proved of its value. DESIGN CHOICE (log 2): it is the value at reset only; a state may hold any other. -/
opaque Config.maxCycles : Nat

/-- The real numbers that the spec leaves open: irrational values of parameters, quotients by 0, replacements of FILTER, and
with them the order and the floors of what is computed from them. `none` stands for 0 in the place of each. It has no body,
so a claim holds for all real numbers in these places, and `exists_openReals` says that none is left out. DESIGN CHOICE (log
37). -/
opaque Config.openReals : Option OpenReals

/-- The number of a rounding domain that the exact result of an operation becomes; the spec bounds no error (47 R303), so
it has no body. DESIGN CHOICE (log 29). -/
opaque Config.round : Nat → Number → Rat

/-- As `Config.round`, of a frequency or a phase (log 29). -/
opaque Config.roundTempered : Nat → TemperedReal → Rat

/-- As `Config.round`, of a number of the filter (log 29). -/
opaque Config.roundFilter : Nat → FilterReal → Rat

/-- `log2` in a rounding domain (log 29). -/
opaque Config.log2 : Nat → Number → Rat

/-- The filter's coefficient `F` in a rounding domain, from `min(fc, fs / 6)` and `fs` (47 R300; log 29). -/
opaque Config.filterCoefficient : Nat → Number → Number → Rat

/-- The note of a frequency that is not above 0, which has no logarithm; it is asked for only where HZ_MIN is not above 0,
which 47 R303 excludes (46 R242, R243). It has no body. DESIGN CHOICE (log 31). -/
opaque Config.noteWithoutLog : Number → Fin 128

/-- What a header field reads at an offset beyond the file's end, which a HEADER_SIZE below 118 admits; 70 R411 says
nothing of it, so it has no body. DESIGN CHOICE (log 30). -/
opaque Config.missingByte : Nat → Byte

/-- The parameters of 00 R6. ADDR_BITS has no field: 00 R7 fixes an address at 16 bits (log 1). -/
structure Params where
  /-- SUPPORTED (30 R94), held as the bytes of 30 R95 that it leaves out. -/
  dropped : List Byte
  /-- UNSUP_LEN (30 R99); its entries at the bytes of 30 R95 are not read, whose lengths are those of their rows (30 R94). -/
  unsupLen : ByteTable UnsupLength
  /-- UNSUP_CYCLES (45 R222). -/
  unsupCycles : Nat
  /-- CYCLES (30 R101); its entries at unsupported bytes are not read, whose count is UNSUP_CYCLES (45 R222). -/
  cycles : ByteTable Nat
  /-- PAGE_PENALTY (30 R101). -/
  pagePenalty : Bool
  /-- RESET_A (45 R223). -/
  resetA : Byte
  /-- RESET_X (45 R223). -/
  resetX : Byte
  /-- RESET_Y (45 R223). -/
  resetY : Byte
  /-- RESET_SP (45 R223). -/
  resetSP : Byte
  /-- RESET_P (45 R223). -/
  resetP : Byte
  /-- RESET_PC (45 R223). -/
  resetPC : Word
  /-- JMP_IND_WRAP (30 R112). -/
  jmpIndWrap : Bool
  /-- STACK_PAGE (41 R140). -/
  stackPage : Word
  /-- BRK_VECTOR (45 R219). -/
  brkVector : Word
  /-- WIN_BASE (20 R61). -/
  winBase : Word
  /-- WIN_SIZE (20 R61). -/
  winSize : Nat
  /-- CLOCK_RATIO (46 R242). -/
  clockRatio : Number
  /-- HZ_MIN (46 R242). -/
  hzMin : Number
  /-- HZ_MAX (46 R242). -/
  hzMax : Number
  /-- VELOCITY (46 R242). -/
  velocity : Fin 128
  /-- PITCH_TRACK (46 R244). -/
  pitchTrack : Bool
  /-- MODE_PRIORITY (46 R249). -/
  modePriority : List FilterMode
  /-- ATTACK_S, in seconds (47 R290). -/
  attackS : Vector Number 16
  /-- DECREL_S, in seconds (47 R290). -/
  decRelS : Vector Number 16
  /-- FILTER (47 R300). -/
  filter : FilterChoice
  /-- MIX_SCALE (47 R301). -/
  mixScale : Number
  /-- NUM (47 R303). -/
  num : NumDomain
  /-- FRAME_RATE_SLOW, in Hz (49 R333). -/
  frameRateSlow : Number
  /-- FRAME_RATE_FAST, in Hz (49 R333). -/
  frameRateFast : Number
  /-- SLOW_IS_DEFAULT (49 R333). -/
  slowIsDefault : Bool
  /-- SENTINEL_PC (49 R334). -/
  sentinelPC : Word
  /-- MAX_CYCLES (49 R336). -/
  maxCycles : Nat
  /-- SP_GUARD (49 R338). -/
  spGuard : SpGuard
  /-- VEC_SEARCH (49 R341). -/
  vecSearch : List Word
  /-- HEADER_SIZE (70 R410). -/
  headerSize : Nat
  /-- The host's sample rate in Hz (00 R6). -/
  sampleRate : Number
  deriving DecidableEq, Repr

end Sys2Proof
end

