-- ==== Sys2Proof/Machine/Reals.lean ====
section
/-! DEFINITION. The real numbers that the machine's numbers stand for, how they compare, their floors. Rational numbers are
compared and floored by computing; for others `Config.openReals` holds the answer, which is that of the real numbers. -/

namespace Sys2Proof.Machine

/-- The real numbers that the spec leaves open, with their order and floors. -/
def openReals : OpenReals := Config.openReals.getD OpenReals.zero

/-- The real number that a number stands for (00 R14). -/
noncomputable def Number.toReal (x : Number) : ℝ := x.eval openReals.toRealValues

/-- The real number that a frequency or a phase stands for (log 5). -/
noncomputable def TemperedReal.toReal (x : TemperedReal) : ℝ := x.eval openReals.toRealValues

/-- The real number that a number of the filter stands for (log 6). -/
noncomputable def FilterReal.toReal (x : FilterReal) : ℝ := x.eval openReals.toRealValues

/-- Whether `x <= y`. -/
def Number.le (x y : Number) : Bool :=
  match x.rational, y.rational with
  | some a, some b => decide (a ≤ b)
  | _, _ => openReals.le x y

/-- Whether `x < y`. -/
def Number.lt (x y : Number) : Bool := !y.le x

/-- The smaller number. -/
def Number.min (x y : Number) : Number := if x.le y then x else y

/-- The larger number. -/
def Number.max (x y : Number) : Number := if x.le y then y else x

/-- How often doubling the precision from 64 bits is tried before the floor is looked up: more often the larger the
coefficients are. -/
def floorFuel (cs : List Rat) : Nat := cs.foldl (fun n c => n + Nat.log2 c.num.natAbs + Nat.log2 c.den + 2) 8

/-- `floor(x)` (00 R14): computed where the coefficients are rational, else what `openReals` holds (log 5). -/
def TemperedReal.floor (x : TemperedReal) : Int :=
  match rationals x.coeff.toList with
  | some cs =>
    match floorWithin cs (floorFuel cs) 64 with
    | some k => k
    | none => openReals.floor x
  | none => openReals.floor x

/-- `frac(x) = x - floor(x)` (00 R14). -/
def TemperedReal.frac (x : TemperedReal) : TemperedReal := x.add (TemperedReal.ofNumber (.rat (-(x.floor : Rat))))

end Sys2Proof.Machine
end

