-- ==== Sys2Proof/Syntax.lean ====
section
/-! DEFINITION. The instructions: one constructor for each of the 256 rows of spec/opcode_table.json, with the operand
that the row's addressing mode gives it (30 R91, R92): an immediate or zero-page byte, a signed branch offset, or a 16-bit
address. The operand bytes after an unsupported opcode are not read (45 R222), so they are no operand of it.
The rows with an operand stand first: the runtime has room for 244 constructors that carry one. -/

namespace Sys2Proof

/-- An instruction. -/
inductive Instr
  /-- 0xA1: LDA izx (40 R120). -/
  | ldaIzx (zp : Byte)
  /-- 0xA5: LDA zp (40 R120). -/
  | ldaZp (zp : Byte)
  /-- 0xA9: LDA imm (40 R120). -/
  | ldaImm (m : Byte)
  /-- 0xAD: LDA abs (40 R120). -/
  | ldaAbs (addr : Word)
  /-- 0xB1: LDA izy (40 R120). -/
  | ldaIzy (zp : Byte)
  /-- 0xB5: LDA zpx (40 R120). -/
  | ldaZpx (zp : Byte)
  /-- 0xB9: LDA aby (40 R120). -/
  | ldaAby (base : Word)
  /-- 0xBD: LDA abx (40 R120). -/
  | ldaAbx (base : Word)
  /-- 0xA2: LDX imm (40 R121). -/
  | ldxImm (m : Byte)
  /-- 0xA6: LDX zp (40 R121). -/
  | ldxZp (zp : Byte)
  /-- 0xAE: LDX abs (40 R121). -/
  | ldxAbs (addr : Word)
  /-- 0xB6: LDX zpy (40 R121). -/
  | ldxZpy (zp : Byte)
  /-- 0xBE: LDX aby (40 R121). -/
  | ldxAby (base : Word)
  /-- 0xA0: LDY imm (40 R122). -/
  | ldyImm (m : Byte)
  /-- 0xA4: LDY zp (40 R122). -/
  | ldyZp (zp : Byte)
  /-- 0xAC: LDY abs (40 R122). -/
  | ldyAbs (addr : Word)
  /-- 0xB4: LDY zpx (40 R122). -/
  | ldyZpx (zp : Byte)
  /-- 0xBC: LDY abx (40 R122). -/
  | ldyAbx (base : Word)
  /-- 0x81: STA izx (40 R123). -/
  | staIzx (zp : Byte)
  /-- 0x85: STA zp (40 R123). -/
  | staZp (zp : Byte)
  /-- 0x8D: STA abs (40 R123). -/
  | staAbs (addr : Word)
  /-- 0x91: STA izy (40 R123). -/
  | staIzy (zp : Byte)
  /-- 0x95: STA zpx (40 R123). -/
  | staZpx (zp : Byte)
  /-- 0x99: STA aby (40 R123). -/
  | staAby (base : Word)
  /-- 0x9D: STA abx (40 R123). -/
  | staAbx (base : Word)
  /-- 0x86: STX zp (40 R124). -/
  | stxZp (zp : Byte)
  /-- 0x8E: STX abs (40 R124). -/
  | stxAbs (addr : Word)
  /-- 0x96: STX zpy (40 R124). -/
  | stxZpy (zp : Byte)
  /-- 0x84: STY zp (40 R125). -/
  | styZp (zp : Byte)
  /-- 0x8C: STY abs (40 R125). -/
  | styAbs (addr : Word)
  /-- 0x94: STY zpx (40 R125). -/
  | styZpx (zp : Byte)
  /-- 0x61: ADC izx (42 R151). -/
  | adcIzx (zp : Byte)
  /-- 0x65: ADC zp (42 R151). -/
  | adcZp (zp : Byte)
  /-- 0x69: ADC imm (42 R151). -/
  | adcImm (m : Byte)
  /-- 0x6D: ADC abs (42 R151). -/
  | adcAbs (addr : Word)
  /-- 0x71: ADC izy (42 R151). -/
  | adcIzy (zp : Byte)
  /-- 0x75: ADC zpx (42 R151). -/
  | adcZpx (zp : Byte)
  /-- 0x79: ADC aby (42 R151). -/
  | adcAby (base : Word)
  /-- 0x7D: ADC abx (42 R151). -/
  | adcAbx (base : Word)
  /-- 0xE1: SBC izx (42 R152). -/
  | sbcIzx (zp : Byte)
  /-- 0xE5: SBC zp (42 R152). -/
  | sbcZp (zp : Byte)
  /-- 0xE9: SBC imm (42 R152). -/
  | sbcImm (m : Byte)
  /-- 0xED: SBC abs (42 R152). -/
  | sbcAbs (addr : Word)
  /-- 0xF1: SBC izy (42 R152). -/
  | sbcIzy (zp : Byte)
  /-- 0xF5: SBC zpx (42 R152). -/
  | sbcZpx (zp : Byte)
  /-- 0xF9: SBC aby (42 R152). -/
  | sbcAby (base : Word)
  /-- 0xFD: SBC abx (42 R152). -/
  | sbcAbx (base : Word)
  /-- 0xC1: CMP izx (42 R153). -/
  | cmpIzx (zp : Byte)
  /-- 0xC5: CMP zp (42 R153). -/
  | cmpZp (zp : Byte)
  /-- 0xC9: CMP imm (42 R153). -/
  | cmpImm (m : Byte)
  /-- 0xCD: CMP abs (42 R153). -/
  | cmpAbs (addr : Word)
  /-- 0xD1: CMP izy (42 R153). -/
  | cmpIzy (zp : Byte)
  /-- 0xD5: CMP zpx (42 R153). -/
  | cmpZpx (zp : Byte)
  /-- 0xD9: CMP aby (42 R153). -/
  | cmpAby (base : Word)
  /-- 0xDD: CMP abx (42 R153). -/
  | cmpAbx (base : Word)
  /-- 0xE0: CPX imm (42 R154). -/
  | cpxImm (m : Byte)
  /-- 0xE4: CPX zp (42 R154). -/
  | cpxZp (zp : Byte)
  /-- 0xEC: CPX abs (42 R154). -/
  | cpxAbs (addr : Word)
  /-- 0xC0: CPY imm (42 R155). -/
  | cpyImm (m : Byte)
  /-- 0xC4: CPY zp (42 R155). -/
  | cpyZp (zp : Byte)
  /-- 0xCC: CPY abs (42 R155). -/
  | cpyAbs (addr : Word)
  /-- 0xE6: INC zp (42 R156). -/
  | incZp (zp : Byte)
  /-- 0xEE: INC abs (42 R156). -/
  | incAbs (addr : Word)
  /-- 0xF6: INC zpx (42 R156). -/
  | incZpx (zp : Byte)
  /-- 0xFE: INC abx (42 R156). -/
  | incAbx (base : Word)
  /-- 0xC6: DEC zp (42 R159). -/
  | decZp (zp : Byte)
  /-- 0xCE: DEC abs (42 R159). -/
  | decAbs (addr : Word)
  /-- 0xD6: DEC zpx (42 R159). -/
  | decZpx (zp : Byte)
  /-- 0xDE: DEC abx (42 R159). -/
  | decAbx (base : Word)
  /-- 0x21: AND izx (43 R170). -/
  | andIzx (zp : Byte)
  /-- 0x25: AND zp (43 R170). -/
  | andZp (zp : Byte)
  /-- 0x29: AND imm (43 R170). -/
  | andImm (m : Byte)
  /-- 0x2D: AND abs (43 R170). -/
  | andAbs (addr : Word)
  /-- 0x31: AND izy (43 R170). -/
  | andIzy (zp : Byte)
  /-- 0x35: AND zpx (43 R170). -/
  | andZpx (zp : Byte)
  /-- 0x39: AND aby (43 R170). -/
  | andAby (base : Word)
  /-- 0x3D: AND abx (43 R170). -/
  | andAbx (base : Word)
  /-- 0x01: ORA izx (43 R171). -/
  | oraIzx (zp : Byte)
  /-- 0x05: ORA zp (43 R171). -/
  | oraZp (zp : Byte)
  /-- 0x09: ORA imm (43 R171). -/
  | oraImm (m : Byte)
  /-- 0x0D: ORA abs (43 R171). -/
  | oraAbs (addr : Word)
  /-- 0x11: ORA izy (43 R171). -/
  | oraIzy (zp : Byte)
  /-- 0x15: ORA zpx (43 R171). -/
  | oraZpx (zp : Byte)
  /-- 0x19: ORA aby (43 R171). -/
  | oraAby (base : Word)
  /-- 0x1D: ORA abx (43 R171). -/
  | oraAbx (base : Word)
  /-- 0x41: EOR izx (43 R172). -/
  | eorIzx (zp : Byte)
  /-- 0x45: EOR zp (43 R172). -/
  | eorZp (zp : Byte)
  /-- 0x49: EOR imm (43 R172). -/
  | eorImm (m : Byte)
  /-- 0x4D: EOR abs (43 R172). -/
  | eorAbs (addr : Word)
  /-- 0x51: EOR izy (43 R172). -/
  | eorIzy (zp : Byte)
  /-- 0x55: EOR zpx (43 R172). -/
  | eorZpx (zp : Byte)
  /-- 0x59: EOR aby (43 R172). -/
  | eorAby (base : Word)
  /-- 0x5D: EOR abx (43 R172). -/
  | eorAbx (base : Word)
  /-- 0x24: BIT zp (43 R173). -/
  | bitZp (zp : Byte)
  /-- 0x2C: BIT abs (43 R173). -/
  | bitAbs (addr : Word)
  /-- 0x06: ASL zp (43 R174). -/
  | aslZp (zp : Byte)
  /-- 0x0E: ASL abs (43 R174). -/
  | aslAbs (addr : Word)
  /-- 0x16: ASL zpx (43 R174). -/
  | aslZpx (zp : Byte)
  /-- 0x1E: ASL abx (43 R174). -/
  | aslAbx (base : Word)
  /-- 0x46: LSR zp (43 R175). -/
  | lsrZp (zp : Byte)
  /-- 0x4E: LSR abs (43 R175). -/
  | lsrAbs (addr : Word)
  /-- 0x56: LSR zpx (43 R175). -/
  | lsrZpx (zp : Byte)
  /-- 0x5E: LSR abx (43 R175). -/
  | lsrAbx (base : Word)
  /-- 0x26: ROL zp (43 R176). -/
  | rolZp (zp : Byte)
  /-- 0x2E: ROL abs (43 R176). -/
  | rolAbs (addr : Word)
  /-- 0x36: ROL zpx (43 R176). -/
  | rolZpx (zp : Byte)
  /-- 0x3E: ROL abx (43 R176). -/
  | rolAbx (base : Word)
  /-- 0x66: ROR zp (43 R177). -/
  | rorZp (zp : Byte)
  /-- 0x6E: ROR abs (43 R177). -/
  | rorAbs (addr : Word)
  /-- 0x76: ROR zpx (43 R177). -/
  | rorZpx (zp : Byte)
  /-- 0x7E: ROR abx (43 R177). -/
  | rorAbx (base : Word)
  /-- 0x90: BCC rel (44 R191). -/
  | bcc (off : Byte)
  /-- 0xB0: BCS rel (44 R192). -/
  | bcs (off : Byte)
  /-- 0xF0: BEQ rel (44 R193). -/
  | beq (off : Byte)
  /-- 0x30: BMI rel (44 R194). -/
  | bmi (off : Byte)
  /-- 0xD0: BNE rel (44 R195). -/
  | bne (off : Byte)
  /-- 0x10: BPL rel (44 R196). -/
  | bpl (off : Byte)
  /-- 0x50: BVC rel (44 R197). -/
  | bvc (off : Byte)
  /-- 0x70: BVS rel (44 R198). -/
  | bvs (off : Byte)
  /-- 0x4C: JMP abs (44 R199). -/
  | jmpAbs (addr : Word)
  /-- 0x6C: JMP ind (44 R199). -/
  | jmpInd (ptr : Word)
  /-- 0x20: JSR abs (44 R201). -/
  | jsr (addr : Word)
  /-- 0xAA: TAX imp (40 R126). -/
  | tax
  /-- 0xA8: TAY imp (40 R127). -/
  | tay
  /-- 0x8A: TXA imp (40 R128). -/
  | txa
  /-- 0x98: TYA imp (40 R129). -/
  | tya
  /-- 0xBA: TSX imp (40 R130). -/
  | tsx
  /-- 0x9A: TXS imp (40 R131). -/
  | txs
  /-- 0x48: PHA imp (41 R144). -/
  | pha
  /-- 0x08: PHP imp (41 R145). -/
  | php
  /-- 0x68: PLA imp (41 R146). -/
  | pla
  /-- 0x28: PLP imp (41 R147). -/
  | plp
  /-- 0xE8: INX imp (42 R157). -/
  | inx
  /-- 0xC8: INY imp (42 R158). -/
  | iny
  /-- 0xCA: DEX imp (42 R160). -/
  | dex
  /-- 0x88: DEY imp (42 R161). -/
  | dey
  /-- 0x0A: ASL acc (43 R174). -/
  | aslAcc
  /-- 0x4A: LSR acc (43 R175). -/
  | lsrAcc
  /-- 0x2A: ROL acc (43 R176). -/
  | rolAcc
  /-- 0x6A: ROR acc (43 R177). -/
  | rorAcc
  /-- 0x60: RTS imp (44 R202). -/
  | rts
  /-- 0x40: RTI imp (44 R203). -/
  | rti
  /-- 0x18: CLC imp (45 R210). -/
  | clc
  /-- 0x38: SEC imp (45 R211). -/
  | sec
  /-- 0x58: CLI imp (45 R212). -/
  | cli
  /-- 0x78: SEI imp (45 R213). -/
  | sei
  /-- 0xB8: CLV imp (45 R214). -/
  | clv
  /-- 0xD8: CLD imp (45 R215). -/
  | cld
  /-- 0xF8: SED imp (45 R216). -/
  | sed
  /-- 0xEA: NOP imp (45 R217). -/
  | nop
  /-- 0x00: BRK imp (45 R219). -/
  | brk
  /-- 0x02: unsupported opcode (45 R222). -/
  | unsup02
  /-- 0x03: unsupported opcode (45 R222). -/
  | unsup03
  /-- 0x04: unsupported opcode (45 R222). -/
  | unsup04
  /-- 0x07: unsupported opcode (45 R222). -/
  | unsup07
  /-- 0x0B: unsupported opcode (45 R222). -/
  | unsup0B
  /-- 0x0C: unsupported opcode (45 R222). -/
  | unsup0C
  /-- 0x0F: unsupported opcode (45 R222). -/
  | unsup0F
  /-- 0x12: unsupported opcode (45 R222). -/
  | unsup12
  /-- 0x13: unsupported opcode (45 R222). -/
  | unsup13
  /-- 0x14: unsupported opcode (45 R222). -/
  | unsup14
  /-- 0x17: unsupported opcode (45 R222). -/
  | unsup17
  /-- 0x1A: unsupported opcode (45 R222). -/
  | unsup1A
  /-- 0x1B: unsupported opcode (45 R222). -/
  | unsup1B
  /-- 0x1C: unsupported opcode (45 R222). -/
  | unsup1C
  /-- 0x1F: unsupported opcode (45 R222). -/
  | unsup1F
  /-- 0x22: unsupported opcode (45 R222). -/
  | unsup22
  /-- 0x23: unsupported opcode (45 R222). -/
  | unsup23
  /-- 0x27: unsupported opcode (45 R222). -/
  | unsup27
  /-- 0x2B: unsupported opcode (45 R222). -/
  | unsup2B
  /-- 0x2F: unsupported opcode (45 R222). -/
  | unsup2F
  /-- 0x32: unsupported opcode (45 R222). -/
  | unsup32
  /-- 0x33: unsupported opcode (45 R222). -/
  | unsup33
  /-- 0x34: unsupported opcode (45 R222). -/
  | unsup34
  /-- 0x37: unsupported opcode (45 R222). -/
  | unsup37
  /-- 0x3A: unsupported opcode (45 R222). -/
  | unsup3A
  /-- 0x3B: unsupported opcode (45 R222). -/
  | unsup3B
  /-- 0x3C: unsupported opcode (45 R222). -/
  | unsup3C
  /-- 0x3F: unsupported opcode (45 R222). -/
  | unsup3F
  /-- 0x42: unsupported opcode (45 R222). -/
  | unsup42
  /-- 0x43: unsupported opcode (45 R222). -/
  | unsup43
  /-- 0x44: unsupported opcode (45 R222). -/
  | unsup44
  /-- 0x47: unsupported opcode (45 R222). -/
  | unsup47
  /-- 0x4B: unsupported opcode (45 R222). -/
  | unsup4B
  /-- 0x4F: unsupported opcode (45 R222). -/
  | unsup4F
  /-- 0x52: unsupported opcode (45 R222). -/
  | unsup52
  /-- 0x53: unsupported opcode (45 R222). -/
  | unsup53
  /-- 0x54: unsupported opcode (45 R222). -/
  | unsup54
  /-- 0x57: unsupported opcode (45 R222). -/
  | unsup57
  /-- 0x5A: unsupported opcode (45 R222). -/
  | unsup5A
  /-- 0x5B: unsupported opcode (45 R222). -/
  | unsup5B
  /-- 0x5C: unsupported opcode (45 R222). -/
  | unsup5C
  /-- 0x5F: unsupported opcode (45 R222). -/
  | unsup5F
  /-- 0x62: unsupported opcode (45 R222). -/
  | unsup62
  /-- 0x63: unsupported opcode (45 R222). -/
  | unsup63
  /-- 0x64: unsupported opcode (45 R222). -/
  | unsup64
  /-- 0x67: unsupported opcode (45 R222). -/
  | unsup67
  /-- 0x6B: unsupported opcode (45 R222). -/
  | unsup6B
  /-- 0x6F: unsupported opcode (45 R222). -/
  | unsup6F
  /-- 0x72: unsupported opcode (45 R222). -/
  | unsup72
  /-- 0x73: unsupported opcode (45 R222). -/
  | unsup73
  /-- 0x74: unsupported opcode (45 R222). -/
  | unsup74
  /-- 0x77: unsupported opcode (45 R222). -/
  | unsup77
  /-- 0x7A: unsupported opcode (45 R222). -/
  | unsup7A
  /-- 0x7B: unsupported opcode (45 R222). -/
  | unsup7B
  /-- 0x7C: unsupported opcode (45 R222). -/
  | unsup7C
  /-- 0x7F: unsupported opcode (45 R222). -/
  | unsup7F
  /-- 0x80: unsupported opcode (45 R222). -/
  | unsup80
  /-- 0x82: unsupported opcode (45 R222). -/
  | unsup82
  /-- 0x83: unsupported opcode (45 R222). -/
  | unsup83
  /-- 0x87: unsupported opcode (45 R222). -/
  | unsup87
  /-- 0x89: unsupported opcode (45 R222). -/
  | unsup89
  /-- 0x8B: unsupported opcode (45 R222). -/
  | unsup8B
  /-- 0x8F: unsupported opcode (45 R222). -/
  | unsup8F
  /-- 0x92: unsupported opcode (45 R222). -/
  | unsup92
  /-- 0x93: unsupported opcode (45 R222). -/
  | unsup93
  /-- 0x97: unsupported opcode (45 R222). -/
  | unsup97
  /-- 0x9B: unsupported opcode (45 R222). -/
  | unsup9B
  /-- 0x9C: unsupported opcode (45 R222). -/
  | unsup9C
  /-- 0x9E: unsupported opcode (45 R222). -/
  | unsup9E
  /-- 0x9F: unsupported opcode (45 R222). -/
  | unsup9F
  /-- 0xA3: unsupported opcode (45 R222). -/
  | unsupA3
  /-- 0xA7: unsupported opcode (45 R222). -/
  | unsupA7
  /-- 0xAB: unsupported opcode (45 R222). -/
  | unsupAB
  /-- 0xAF: unsupported opcode (45 R222). -/
  | unsupAF
  /-- 0xB2: unsupported opcode (45 R222). -/
  | unsupB2
  /-- 0xB3: unsupported opcode (45 R222). -/
  | unsupB3
  /-- 0xB7: unsupported opcode (45 R222). -/
  | unsupB7
  /-- 0xBB: unsupported opcode (45 R222). -/
  | unsupBB
  /-- 0xBF: unsupported opcode (45 R222). -/
  | unsupBF
  /-- 0xC2: unsupported opcode (45 R222). -/
  | unsupC2
  /-- 0xC3: unsupported opcode (45 R222). -/
  | unsupC3
  /-- 0xC7: unsupported opcode (45 R222). -/
  | unsupC7
  /-- 0xCB: unsupported opcode (45 R222). -/
  | unsupCB
  /-- 0xCF: unsupported opcode (45 R222). -/
  | unsupCF
  /-- 0xD2: unsupported opcode (45 R222). -/
  | unsupD2
  /-- 0xD3: unsupported opcode (45 R222). -/
  | unsupD3
  /-- 0xD4: unsupported opcode (45 R222). -/
  | unsupD4
  /-- 0xD7: unsupported opcode (45 R222). -/
  | unsupD7
  /-- 0xDA: unsupported opcode (45 R222). -/
  | unsupDA
  /-- 0xDB: unsupported opcode (45 R222). -/
  | unsupDB
  /-- 0xDC: unsupported opcode (45 R222). -/
  | unsupDC
  /-- 0xDF: unsupported opcode (45 R222). -/
  | unsupDF
  /-- 0xE2: unsupported opcode (45 R222). -/
  | unsupE2
  /-- 0xE3: unsupported opcode (45 R222). -/
  | unsupE3
  /-- 0xE7: unsupported opcode (45 R222). -/
  | unsupE7
  /-- 0xEB: unsupported opcode (45 R222). -/
  | unsupEB
  /-- 0xEF: unsupported opcode (45 R222). -/
  | unsupEF
  /-- 0xF2: unsupported opcode (45 R222). -/
  | unsupF2
  /-- 0xF3: unsupported opcode (45 R222). -/
  | unsupF3
  /-- 0xF4: unsupported opcode (45 R222). -/
  | unsupF4
  /-- 0xF7: unsupported opcode (45 R222). -/
  | unsupF7
  /-- 0xFA: unsupported opcode (45 R222). -/
  | unsupFA
  /-- 0xFB: unsupported opcode (45 R222). -/
  | unsupFB
  /-- 0xFC: unsupported opcode (45 R222). -/
  | unsupFC
  /-- 0xFF: unsupported opcode (45 R222). -/
  | unsupFF
  deriving DecidableEq, Repr

end Sys2Proof
end

