-- ==== Sys2Proof/WellFormed.lean ====
section
/-! DEFINITION. Which instructions and which parameter values are well-formed. -/

namespace Sys2Proof

/-- Every term of `Instr` is a well-formed instruction: each operand has exactly the width the encoding gives it, all 8
bits of each operand byte are used and no field is reserved (30 R91, R97). -/
def Instr.wellFormed (_ : Instr) : Bool := true

/-- UNSUP_CYCLES and every entry of CYCLES are at least 1 (00 R6, 93 I3, I4). -/
def Params.cyclesOk (p : Params) : Bool :=
  decide (1 ≤ p.unsupCycles) && p.cycles.toList.all (fun row => row.toList.all fun c => decide (1 ≤ c))

/-- RESET_P has bit 5 set and bit 4 clear, as the live `P` always has (10 R25). -/
def Params.statusOk (p : Params) : Bool := p.resetP.getLsbD 5 && !p.resetP.getLsbD 4

/-- The window lies inside the address space (20 R61). The check is the model's own: 00 R6 bounds neither WIN_BASE nor
WIN_SIZE. DESIGN CHOICE (log 17). -/
def Params.windowOk (p : Params) : Bool := decide (p.winBase.toNat + p.winSize ≤ 65536)

/-- The bounds of the note conversion keep the logarithm's argument positive (46 R242, R243): HZ_MIN is above 0 (47 R303). -/
def Params.rangeOk (p : Params) : Bool := Machine.Number.lt (.rat 0) p.hzMin

/-- MODE_PRIORITY orders the three modes (00 R6). -/
def Params.priorityOk (p : Params) : Bool :=
  decide (p.modePriority.length = 3) && p.modePriority.contains .lp && p.modePriority.contains .bp &&
    p.modePriority.contains .hp

/-- Every entry of the envelope tables is above 0 (47 R290). -/
def Params.tablesOk (p : Params) : Bool :=
  p.attackS.toList.all (Machine.Number.lt (.rat 0)) && p.decRelS.toList.all (Machine.Number.lt (.rat 0))

/-- The sample rate is above 0 (00 R6, 93 I31), and so are the frame rates. The second is the model's own check: 00 R6 types
a frame rate as a real without a bound. DESIGN CHOICE (log 31). -/
def Params.ratesOk (p : Params) : Bool :=
  Machine.Number.lt (.rat 0) p.sampleRate && Machine.Number.lt (.rat 0) p.frameRateSlow &&
    Machine.Number.lt (.rat 0) p.frameRateFast

/-- VEC_SEARCH is a list of two words (00 R6). -/
def Params.vectorsOk (p : Params) : Bool := decide (p.vecSearch.length = 2)

/-- The parameter values that 00 R6 admits, and that the checks above that are the model's own admit too. -/
def Params.wellFormed (p : Params) : Bool :=
  p.cyclesOk && p.statusOk && p.windowOk && p.rangeOk && p.priorityOk && p.tablesOk && p.ratesOk && p.vectorsOk

end Sys2Proof
end

