-- ==== Sys2Proof/Decode.lean ====
section
/-! DEFINITION. The decoder and the encoder, from the opcode matrix of 30_encoding.md rule R95 and the list of rule R99,
and the byte-order and extension helpers of 00 R9 and 20 R65. -/

namespace Sys2Proof

/-- `zext_16` (00 R9). -/
def zext16 (b : Byte) : Word := b.setWidth 16

/-- `sext_16` (00 R9). -/
def sext16 (b : Byte) : Word := b.signExtend 16

/-- The 16-bit quantity of a high and a low byte, `(hi << 8) | lo` (00 R11). -/
def wordOf (hi lo : Byte) : Word := hi ++ lo

/-- Bits 7:0. -/
def loByte (w : Word) : Byte := w.extractLsb' 0 8

/-- Bits 15:8. -/
def hiByte (w : Word) : Byte := w.extractLsb' 8 8

/-- The 105 opcode bytes that are not in rule R95 (30 R97). -/
def unsupportedBytes : List Byte :=
  [0x02, 0x03, 0x04, 0x07, 0x0B, 0x0C, 0x0F, 0x12, 0x13, 0x14, 0x17, 0x1A, 0x1B, 0x1C] ++
  [0x1F, 0x22, 0x23, 0x27, 0x2B, 0x2F, 0x32, 0x33, 0x34, 0x37, 0x3A, 0x3B, 0x3C, 0x3F] ++
  [0x42, 0x43, 0x44, 0x47, 0x4B, 0x4F, 0x52, 0x53, 0x54, 0x57, 0x5A, 0x5B, 0x5C, 0x5F] ++
  [0x62, 0x63, 0x64, 0x67, 0x6B, 0x6F, 0x72, 0x73, 0x74, 0x77, 0x7A, 0x7B, 0x7C, 0x7F] ++
  [0x80, 0x82, 0x83, 0x87, 0x89, 0x8B, 0x8F, 0x92, 0x93, 0x97, 0x9B, 0x9C, 0x9E, 0x9F] ++
  [0xA3, 0xA7, 0xAB, 0xAF, 0xB2, 0xB3, 0xB7, 0xBB, 0xBF, 0xC2, 0xC3, 0xC7, 0xCB, 0xCF] ++
  [0xD2, 0xD3, 0xD4, 0xD7, 0xDA, 0xDB, 0xDC, 0xDF, 0xE2, 0xE3, 0xE7, 0xEB, 0xEF, 0xF2] ++
  [0xF3, 0xF4, 0xF7, 0xFA, 0xFB, 0xFC, 0xFF]

/-- UNSUP_LEN at its default (30 R99); at a byte of rule R95 stands the length of its row, which 30 R94 makes its length
when SUPPORTED leaves it out. -/
def defaultUnsupLen : ByteTable UnsupLength :=
  #v[#v[.one, .two, .one, .two, .two, .two, .two, .two, .one, .two, .one, .two, .three, .three, .three, .three],
    #v[.two, .two, .one, .two, .two, .two, .two, .two, .one, .three, .one, .three, .three, .three, .three, .three],
    #v[.three, .two, .one, .two, .two, .two, .two, .two, .one, .two, .one, .two, .three, .three, .three, .three],
    #v[.two, .two, .one, .two, .two, .two, .two, .two, .one, .three, .one, .three, .three, .three, .three, .three],
    #v[.one, .two, .one, .two, .two, .two, .two, .two, .one, .two, .one, .two, .three, .three, .three, .three],
    #v[.two, .two, .one, .two, .two, .two, .two, .two, .one, .three, .one, .three, .three, .three, .three, .three],
    #v[.one, .two, .one, .two, .two, .two, .two, .two, .one, .two, .one, .two, .three, .three, .three, .three],
    #v[.two, .two, .one, .two, .two, .two, .two, .two, .one, .three, .one, .three, .three, .three, .three, .three],
    #v[.two, .two, .two, .two, .two, .two, .two, .two, .one, .two, .one, .two, .three, .three, .three, .three],
    #v[.two, .two, .one, .two, .two, .two, .two, .two, .one, .three, .one, .three, .three, .three, .three, .three],
    #v[.two, .two, .two, .two, .two, .two, .two, .two, .one, .two, .one, .two, .three, .three, .three, .three],
    #v[.two, .two, .one, .two, .two, .two, .two, .two, .one, .three, .one, .three, .three, .three, .three, .three],
    #v[.two, .two, .two, .two, .two, .two, .two, .two, .one, .two, .one, .two, .three, .three, .three, .three],
    #v[.two, .two, .one, .two, .two, .two, .two, .two, .one, .three, .one, .three, .three, .three, .three, .three],
    #v[.two, .two, .two, .two, .two, .two, .two, .two, .one, .two, .one, .two, .three, .three, .three, .three],
    #v[.two, .two, .one, .two, .two, .two, .two, .two, .one, .three, .one, .three, .three, .three, .three, .three]]

/-- The byte is not in rule R95 (30 R97). -/
def unsupportedByte (op : Byte) : Bool := unsupportedBytes.contains op

/-- A length as a number. -/
def UnsupLength.toNat : UnsupLength → Nat
  | .one => 1
  | .two => 2
  | .three => 3

/-- The entry of a table that a byte selects. -/
def ByteTable.entry {α : Type} (t : ByteTable α) (op : Byte) : α :=
  (t[op.toNat / 16]'(by omega))[op.toNat % 16]'(by omega)

/-- `UNSUP_LEN(op)` (30 R99). -/
def lengthIn (ul : ByteTable UnsupLength) (op : Byte) : Nat := (ul.entry op).toNat

/-- The instruction that an opcode byte makes of the two bytes that follow it. -/
abbrev OpcodeCell := Byte → Byte → Instr

/-- Row 0x of the opcode matrix (30 R95). -/
def opcodeRow0 : List OpcodeCell :=
  [fun _ _ => .brk, fun b1 _ => .oraIzx b1, fun _ _ => .unsup02, fun _ _ => .unsup03,
   fun _ _ => .unsup04, fun b1 _ => .oraZp b1, fun b1 _ => .aslZp b1, fun _ _ => .unsup07,
   fun _ _ => .php, fun b1 _ => .oraImm b1, fun _ _ => .aslAcc, fun _ _ => .unsup0B,
   fun _ _ => .unsup0C, fun b1 b2 => .oraAbs (wordOf b2 b1), fun b1 b2 => .aslAbs (wordOf b2 b1), fun _ _ => .unsup0F]

/-- Row 1x of the opcode matrix (30 R95). -/
def opcodeRow1 : List OpcodeCell :=
  [fun b1 _ => .bpl b1, fun b1 _ => .oraIzy b1, fun _ _ => .unsup12, fun _ _ => .unsup13,
   fun _ _ => .unsup14, fun b1 _ => .oraZpx b1, fun b1 _ => .aslZpx b1, fun _ _ => .unsup17,
   fun _ _ => .clc, fun b1 b2 => .oraAby (wordOf b2 b1), fun _ _ => .unsup1A, fun _ _ => .unsup1B,
   fun _ _ => .unsup1C, fun b1 b2 => .oraAbx (wordOf b2 b1), fun b1 b2 => .aslAbx (wordOf b2 b1), fun _ _ => .unsup1F]

/-- Row 2x of the opcode matrix (30 R95). -/
def opcodeRow2 : List OpcodeCell :=
  [fun b1 b2 => .jsr (wordOf b2 b1), fun b1 _ => .andIzx b1, fun _ _ => .unsup22, fun _ _ => .unsup23,
   fun b1 _ => .bitZp b1, fun b1 _ => .andZp b1, fun b1 _ => .rolZp b1, fun _ _ => .unsup27,
   fun _ _ => .plp, fun b1 _ => .andImm b1, fun _ _ => .rolAcc, fun _ _ => .unsup2B,
   fun b1 b2 => .bitAbs (wordOf b2 b1), fun b1 b2 => .andAbs (wordOf b2 b1), fun b1 b2 => .rolAbs (wordOf b2 b1), fun _ _ => .unsup2F]

/-- Row 3x of the opcode matrix (30 R95). -/
def opcodeRow3 : List OpcodeCell :=
  [fun b1 _ => .bmi b1, fun b1 _ => .andIzy b1, fun _ _ => .unsup32, fun _ _ => .unsup33,
   fun _ _ => .unsup34, fun b1 _ => .andZpx b1, fun b1 _ => .rolZpx b1, fun _ _ => .unsup37,
   fun _ _ => .sec, fun b1 b2 => .andAby (wordOf b2 b1), fun _ _ => .unsup3A, fun _ _ => .unsup3B,
   fun _ _ => .unsup3C, fun b1 b2 => .andAbx (wordOf b2 b1), fun b1 b2 => .rolAbx (wordOf b2 b1), fun _ _ => .unsup3F]

/-- Row 4x of the opcode matrix (30 R95). -/
def opcodeRow4 : List OpcodeCell :=
  [fun _ _ => .rti, fun b1 _ => .eorIzx b1, fun _ _ => .unsup42, fun _ _ => .unsup43,
   fun _ _ => .unsup44, fun b1 _ => .eorZp b1, fun b1 _ => .lsrZp b1, fun _ _ => .unsup47,
   fun _ _ => .pha, fun b1 _ => .eorImm b1, fun _ _ => .lsrAcc, fun _ _ => .unsup4B,
   fun b1 b2 => .jmpAbs (wordOf b2 b1), fun b1 b2 => .eorAbs (wordOf b2 b1), fun b1 b2 => .lsrAbs (wordOf b2 b1), fun _ _ => .unsup4F]

/-- Row 5x of the opcode matrix (30 R95). -/
def opcodeRow5 : List OpcodeCell :=
  [fun b1 _ => .bvc b1, fun b1 _ => .eorIzy b1, fun _ _ => .unsup52, fun _ _ => .unsup53,
   fun _ _ => .unsup54, fun b1 _ => .eorZpx b1, fun b1 _ => .lsrZpx b1, fun _ _ => .unsup57,
   fun _ _ => .cli, fun b1 b2 => .eorAby (wordOf b2 b1), fun _ _ => .unsup5A, fun _ _ => .unsup5B,
   fun _ _ => .unsup5C, fun b1 b2 => .eorAbx (wordOf b2 b1), fun b1 b2 => .lsrAbx (wordOf b2 b1), fun _ _ => .unsup5F]

/-- Row 6x of the opcode matrix (30 R95). -/
def opcodeRow6 : List OpcodeCell :=
  [fun _ _ => .rts, fun b1 _ => .adcIzx b1, fun _ _ => .unsup62, fun _ _ => .unsup63,
   fun _ _ => .unsup64, fun b1 _ => .adcZp b1, fun b1 _ => .rorZp b1, fun _ _ => .unsup67,
   fun _ _ => .pla, fun b1 _ => .adcImm b1, fun _ _ => .rorAcc, fun _ _ => .unsup6B,
   fun b1 b2 => .jmpInd (wordOf b2 b1), fun b1 b2 => .adcAbs (wordOf b2 b1), fun b1 b2 => .rorAbs (wordOf b2 b1), fun _ _ => .unsup6F]

/-- Row 7x of the opcode matrix (30 R95). -/
def opcodeRow7 : List OpcodeCell :=
  [fun b1 _ => .bvs b1, fun b1 _ => .adcIzy b1, fun _ _ => .unsup72, fun _ _ => .unsup73,
   fun _ _ => .unsup74, fun b1 _ => .adcZpx b1, fun b1 _ => .rorZpx b1, fun _ _ => .unsup77,
   fun _ _ => .sei, fun b1 b2 => .adcAby (wordOf b2 b1), fun _ _ => .unsup7A, fun _ _ => .unsup7B,
   fun _ _ => .unsup7C, fun b1 b2 => .adcAbx (wordOf b2 b1), fun b1 b2 => .rorAbx (wordOf b2 b1), fun _ _ => .unsup7F]

/-- Row 8x of the opcode matrix (30 R95). -/
def opcodeRow8 : List OpcodeCell :=
  [fun _ _ => .unsup80, fun b1 _ => .staIzx b1, fun _ _ => .unsup82, fun _ _ => .unsup83,
   fun b1 _ => .styZp b1, fun b1 _ => .staZp b1, fun b1 _ => .stxZp b1, fun _ _ => .unsup87,
   fun _ _ => .dey, fun _ _ => .unsup89, fun _ _ => .txa, fun _ _ => .unsup8B,
   fun b1 b2 => .styAbs (wordOf b2 b1), fun b1 b2 => .staAbs (wordOf b2 b1), fun b1 b2 => .stxAbs (wordOf b2 b1), fun _ _ => .unsup8F]

/-- Row 9x of the opcode matrix (30 R95). -/
def opcodeRow9 : List OpcodeCell :=
  [fun b1 _ => .bcc b1, fun b1 _ => .staIzy b1, fun _ _ => .unsup92, fun _ _ => .unsup93,
   fun b1 _ => .styZpx b1, fun b1 _ => .staZpx b1, fun b1 _ => .stxZpy b1, fun _ _ => .unsup97,
   fun _ _ => .tya, fun b1 b2 => .staAby (wordOf b2 b1), fun _ _ => .txs, fun _ _ => .unsup9B,
   fun _ _ => .unsup9C, fun b1 b2 => .staAbx (wordOf b2 b1), fun _ _ => .unsup9E, fun _ _ => .unsup9F]

/-- Row Ax of the opcode matrix (30 R95). -/
def opcodeRowA : List OpcodeCell :=
  [fun b1 _ => .ldyImm b1, fun b1 _ => .ldaIzx b1, fun b1 _ => .ldxImm b1, fun _ _ => .unsupA3,
   fun b1 _ => .ldyZp b1, fun b1 _ => .ldaZp b1, fun b1 _ => .ldxZp b1, fun _ _ => .unsupA7,
   fun _ _ => .tay, fun b1 _ => .ldaImm b1, fun _ _ => .tax, fun _ _ => .unsupAB,
   fun b1 b2 => .ldyAbs (wordOf b2 b1), fun b1 b2 => .ldaAbs (wordOf b2 b1), fun b1 b2 => .ldxAbs (wordOf b2 b1), fun _ _ => .unsupAF]

/-- Row Bx of the opcode matrix (30 R95). -/
def opcodeRowB : List OpcodeCell :=
  [fun b1 _ => .bcs b1, fun b1 _ => .ldaIzy b1, fun _ _ => .unsupB2, fun _ _ => .unsupB3,
   fun b1 _ => .ldyZpx b1, fun b1 _ => .ldaZpx b1, fun b1 _ => .ldxZpy b1, fun _ _ => .unsupB7,
   fun _ _ => .clv, fun b1 b2 => .ldaAby (wordOf b2 b1), fun _ _ => .tsx, fun _ _ => .unsupBB,
   fun b1 b2 => .ldyAbx (wordOf b2 b1), fun b1 b2 => .ldaAbx (wordOf b2 b1), fun b1 b2 => .ldxAby (wordOf b2 b1), fun _ _ => .unsupBF]

/-- Row Cx of the opcode matrix (30 R95). -/
def opcodeRowC : List OpcodeCell :=
  [fun b1 _ => .cpyImm b1, fun b1 _ => .cmpIzx b1, fun _ _ => .unsupC2, fun _ _ => .unsupC3,
   fun b1 _ => .cpyZp b1, fun b1 _ => .cmpZp b1, fun b1 _ => .decZp b1, fun _ _ => .unsupC7,
   fun _ _ => .iny, fun b1 _ => .cmpImm b1, fun _ _ => .dex, fun _ _ => .unsupCB,
   fun b1 b2 => .cpyAbs (wordOf b2 b1), fun b1 b2 => .cmpAbs (wordOf b2 b1), fun b1 b2 => .decAbs (wordOf b2 b1), fun _ _ => .unsupCF]

/-- Row Dx of the opcode matrix (30 R95). -/
def opcodeRowD : List OpcodeCell :=
  [fun b1 _ => .bne b1, fun b1 _ => .cmpIzy b1, fun _ _ => .unsupD2, fun _ _ => .unsupD3,
   fun _ _ => .unsupD4, fun b1 _ => .cmpZpx b1, fun b1 _ => .decZpx b1, fun _ _ => .unsupD7,
   fun _ _ => .cld, fun b1 b2 => .cmpAby (wordOf b2 b1), fun _ _ => .unsupDA, fun _ _ => .unsupDB,
   fun _ _ => .unsupDC, fun b1 b2 => .cmpAbx (wordOf b2 b1), fun b1 b2 => .decAbx (wordOf b2 b1), fun _ _ => .unsupDF]

/-- Row Ex of the opcode matrix (30 R95). -/
def opcodeRowE : List OpcodeCell :=
  [fun b1 _ => .cpxImm b1, fun b1 _ => .sbcIzx b1, fun _ _ => .unsupE2, fun _ _ => .unsupE3,
   fun b1 _ => .cpxZp b1, fun b1 _ => .sbcZp b1, fun b1 _ => .incZp b1, fun _ _ => .unsupE7,
   fun _ _ => .inx, fun b1 _ => .sbcImm b1, fun _ _ => .nop, fun _ _ => .unsupEB,
   fun b1 b2 => .cpxAbs (wordOf b2 b1), fun b1 b2 => .sbcAbs (wordOf b2 b1), fun b1 b2 => .incAbs (wordOf b2 b1), fun _ _ => .unsupEF]

/-- Row Fx of the opcode matrix (30 R95). -/
def opcodeRowF : List OpcodeCell :=
  [fun b1 _ => .beq b1, fun b1 _ => .sbcIzy b1, fun _ _ => .unsupF2, fun _ _ => .unsupF3,
   fun _ _ => .unsupF4, fun b1 _ => .sbcZpx b1, fun b1 _ => .incZpx b1, fun _ _ => .unsupF7,
   fun _ _ => .sed, fun b1 b2 => .sbcAby (wordOf b2 b1), fun _ _ => .unsupFA, fun _ _ => .unsupFB,
   fun _ _ => .unsupFC, fun b1 b2 => .sbcAbx (wordOf b2 b1), fun b1 b2 => .incAbx (wordOf b2 b1), fun _ _ => .unsupFF]

/-- The opcode matrix (30 R95): high nibble down, low nibble across. -/
def opcodeMatrix : List (List OpcodeCell) :=
  [opcodeRow0, opcodeRow1, opcodeRow2, opcodeRow3, opcodeRow4, opcodeRow5, opcodeRow6, opcodeRow7] ++
  [opcodeRow8, opcodeRow9, opcodeRowA, opcodeRowB, opcodeRowC, opcodeRowD, opcodeRowE, opcodeRowF]

/-- The instruction of an opcode byte and the two bytes after it; the opcode alone decides how many of them it uses
(30 R90, R92, R93). Every nibble has its row and its cell, so the defaults of the two lookups are never met. -/
def decode3 (op b1 b2 : Byte) : Instr :=
  (opcodeMatrix.getD (op.toNat / 16) []).getD (op.toNat % 16) (fun _ _ => .nop) b1 b2

/-- The bytes of an unsupported opcode: as many as UNSUP_LEN gives it; those after it are not read, and the encoder writes
0x00 there (30 R99, 45 R222; log 14). -/
def skippedBytes (ul : ByteTable UnsupLength) (op : Byte) : List Byte := op :: List.replicate (lengthIn ul op - 1) 0x00

/-- The bytes of an instruction, in address order (30 R91), with `ul` for UNSUP_LEN. -/
def encode (ul : ByteTable UnsupLength) : Instr → List Byte
  | .brk => [0x00]
  | .oraIzx zp => [0x01, zp]
  | .unsup02 => skippedBytes ul 0x02
  | .unsup03 => skippedBytes ul 0x03
  | .unsup04 => skippedBytes ul 0x04
  | .oraZp zp => [0x05, zp]
  | .aslZp zp => [0x06, zp]
  | .unsup07 => skippedBytes ul 0x07
  | .php => [0x08]
  | .oraImm m => [0x09, m]
  | .aslAcc => [0x0A]
  | .unsup0B => skippedBytes ul 0x0B
  | .unsup0C => skippedBytes ul 0x0C
  | .oraAbs addr => [0x0D, loByte addr, hiByte addr]
  | .aslAbs addr => [0x0E, loByte addr, hiByte addr]
  | .unsup0F => skippedBytes ul 0x0F
  | .bpl off => [0x10, off]
  | .oraIzy zp => [0x11, zp]
  | .unsup12 => skippedBytes ul 0x12
  | .unsup13 => skippedBytes ul 0x13
  | .unsup14 => skippedBytes ul 0x14
  | .oraZpx zp => [0x15, zp]
  | .aslZpx zp => [0x16, zp]
  | .unsup17 => skippedBytes ul 0x17
  | .clc => [0x18]
  | .oraAby base => [0x19, loByte base, hiByte base]
  | .unsup1A => skippedBytes ul 0x1A
  | .unsup1B => skippedBytes ul 0x1B
  | .unsup1C => skippedBytes ul 0x1C
  | .oraAbx base => [0x1D, loByte base, hiByte base]
  | .aslAbx base => [0x1E, loByte base, hiByte base]
  | .unsup1F => skippedBytes ul 0x1F
  | .jsr addr => [0x20, loByte addr, hiByte addr]
  | .andIzx zp => [0x21, zp]
  | .unsup22 => skippedBytes ul 0x22
  | .unsup23 => skippedBytes ul 0x23
  | .bitZp zp => [0x24, zp]
  | .andZp zp => [0x25, zp]
  | .rolZp zp => [0x26, zp]
  | .unsup27 => skippedBytes ul 0x27
  | .plp => [0x28]
  | .andImm m => [0x29, m]
  | .rolAcc => [0x2A]
  | .unsup2B => skippedBytes ul 0x2B
  | .bitAbs addr => [0x2C, loByte addr, hiByte addr]
  | .andAbs addr => [0x2D, loByte addr, hiByte addr]
  | .rolAbs addr => [0x2E, loByte addr, hiByte addr]
  | .unsup2F => skippedBytes ul 0x2F
  | .bmi off => [0x30, off]
  | .andIzy zp => [0x31, zp]
  | .unsup32 => skippedBytes ul 0x32
  | .unsup33 => skippedBytes ul 0x33
  | .unsup34 => skippedBytes ul 0x34
  | .andZpx zp => [0x35, zp]
  | .rolZpx zp => [0x36, zp]
  | .unsup37 => skippedBytes ul 0x37
  | .sec => [0x38]
  | .andAby base => [0x39, loByte base, hiByte base]
  | .unsup3A => skippedBytes ul 0x3A
  | .unsup3B => skippedBytes ul 0x3B
  | .unsup3C => skippedBytes ul 0x3C
  | .andAbx base => [0x3D, loByte base, hiByte base]
  | .rolAbx base => [0x3E, loByte base, hiByte base]
  | .unsup3F => skippedBytes ul 0x3F
  | .rti => [0x40]
  | .eorIzx zp => [0x41, zp]
  | .unsup42 => skippedBytes ul 0x42
  | .unsup43 => skippedBytes ul 0x43
  | .unsup44 => skippedBytes ul 0x44
  | .eorZp zp => [0x45, zp]
  | .lsrZp zp => [0x46, zp]
  | .unsup47 => skippedBytes ul 0x47
  | .pha => [0x48]
  | .eorImm m => [0x49, m]
  | .lsrAcc => [0x4A]
  | .unsup4B => skippedBytes ul 0x4B
  | .jmpAbs addr => [0x4C, loByte addr, hiByte addr]
  | .eorAbs addr => [0x4D, loByte addr, hiByte addr]
  | .lsrAbs addr => [0x4E, loByte addr, hiByte addr]
  | .unsup4F => skippedBytes ul 0x4F
  | .bvc off => [0x50, off]
  | .eorIzy zp => [0x51, zp]
  | .unsup52 => skippedBytes ul 0x52
  | .unsup53 => skippedBytes ul 0x53
  | .unsup54 => skippedBytes ul 0x54
  | .eorZpx zp => [0x55, zp]
  | .lsrZpx zp => [0x56, zp]
  | .unsup57 => skippedBytes ul 0x57
  | .cli => [0x58]
  | .eorAby base => [0x59, loByte base, hiByte base]
  | .unsup5A => skippedBytes ul 0x5A
  | .unsup5B => skippedBytes ul 0x5B
  | .unsup5C => skippedBytes ul 0x5C
  | .eorAbx base => [0x5D, loByte base, hiByte base]
  | .lsrAbx base => [0x5E, loByte base, hiByte base]
  | .unsup5F => skippedBytes ul 0x5F
  | .rts => [0x60]
  | .adcIzx zp => [0x61, zp]
  | .unsup62 => skippedBytes ul 0x62
  | .unsup63 => skippedBytes ul 0x63
  | .unsup64 => skippedBytes ul 0x64
  | .adcZp zp => [0x65, zp]
  | .rorZp zp => [0x66, zp]
  | .unsup67 => skippedBytes ul 0x67
  | .pla => [0x68]
  | .adcImm m => [0x69, m]
  | .rorAcc => [0x6A]
  | .unsup6B => skippedBytes ul 0x6B
  | .jmpInd ptr => [0x6C, loByte ptr, hiByte ptr]
  | .adcAbs addr => [0x6D, loByte addr, hiByte addr]
  | .rorAbs addr => [0x6E, loByte addr, hiByte addr]
  | .unsup6F => skippedBytes ul 0x6F
  | .bvs off => [0x70, off]
  | .adcIzy zp => [0x71, zp]
  | .unsup72 => skippedBytes ul 0x72
  | .unsup73 => skippedBytes ul 0x73
  | .unsup74 => skippedBytes ul 0x74
  | .adcZpx zp => [0x75, zp]
  | .rorZpx zp => [0x76, zp]
  | .unsup77 => skippedBytes ul 0x77
  | .sei => [0x78]
  | .adcAby base => [0x79, loByte base, hiByte base]
  | .unsup7A => skippedBytes ul 0x7A
  | .unsup7B => skippedBytes ul 0x7B
  | .unsup7C => skippedBytes ul 0x7C
  | .adcAbx base => [0x7D, loByte base, hiByte base]
  | .rorAbx base => [0x7E, loByte base, hiByte base]
  | .unsup7F => skippedBytes ul 0x7F
  | .unsup80 => skippedBytes ul 0x80
  | .staIzx zp => [0x81, zp]
  | .unsup82 => skippedBytes ul 0x82
  | .unsup83 => skippedBytes ul 0x83
  | .styZp zp => [0x84, zp]
  | .staZp zp => [0x85, zp]
  | .stxZp zp => [0x86, zp]
  | .unsup87 => skippedBytes ul 0x87
  | .dey => [0x88]
  | .unsup89 => skippedBytes ul 0x89
  | .txa => [0x8A]
  | .unsup8B => skippedBytes ul 0x8B
  | .styAbs addr => [0x8C, loByte addr, hiByte addr]
  | .staAbs addr => [0x8D, loByte addr, hiByte addr]
  | .stxAbs addr => [0x8E, loByte addr, hiByte addr]
  | .unsup8F => skippedBytes ul 0x8F
  | .bcc off => [0x90, off]
  | .staIzy zp => [0x91, zp]
  | .unsup92 => skippedBytes ul 0x92
  | .unsup93 => skippedBytes ul 0x93
  | .styZpx zp => [0x94, zp]
  | .staZpx zp => [0x95, zp]
  | .stxZpy zp => [0x96, zp]
  | .unsup97 => skippedBytes ul 0x97
  | .tya => [0x98]
  | .staAby base => [0x99, loByte base, hiByte base]
  | .txs => [0x9A]
  | .unsup9B => skippedBytes ul 0x9B
  | .unsup9C => skippedBytes ul 0x9C
  | .staAbx base => [0x9D, loByte base, hiByte base]
  | .unsup9E => skippedBytes ul 0x9E
  | .unsup9F => skippedBytes ul 0x9F
  | .ldyImm m => [0xA0, m]
  | .ldaIzx zp => [0xA1, zp]
  | .ldxImm m => [0xA2, m]
  | .unsupA3 => skippedBytes ul 0xA3
  | .ldyZp zp => [0xA4, zp]
  | .ldaZp zp => [0xA5, zp]
  | .ldxZp zp => [0xA6, zp]
  | .unsupA7 => skippedBytes ul 0xA7
  | .tay => [0xA8]
  | .ldaImm m => [0xA9, m]
  | .tax => [0xAA]
  | .unsupAB => skippedBytes ul 0xAB
  | .ldyAbs addr => [0xAC, loByte addr, hiByte addr]
  | .ldaAbs addr => [0xAD, loByte addr, hiByte addr]
  | .ldxAbs addr => [0xAE, loByte addr, hiByte addr]
  | .unsupAF => skippedBytes ul 0xAF
  | .bcs off => [0xB0, off]
  | .ldaIzy zp => [0xB1, zp]
  | .unsupB2 => skippedBytes ul 0xB2
  | .unsupB3 => skippedBytes ul 0xB3
  | .ldyZpx zp => [0xB4, zp]
  | .ldaZpx zp => [0xB5, zp]
  | .ldxZpy zp => [0xB6, zp]
  | .unsupB7 => skippedBytes ul 0xB7
  | .clv => [0xB8]
  | .ldaAby base => [0xB9, loByte base, hiByte base]
  | .tsx => [0xBA]
  | .unsupBB => skippedBytes ul 0xBB
  | .ldyAbx base => [0xBC, loByte base, hiByte base]
  | .ldaAbx base => [0xBD, loByte base, hiByte base]
  | .ldxAby base => [0xBE, loByte base, hiByte base]
  | .unsupBF => skippedBytes ul 0xBF
  | .cpyImm m => [0xC0, m]
  | .cmpIzx zp => [0xC1, zp]
  | .unsupC2 => skippedBytes ul 0xC2
  | .unsupC3 => skippedBytes ul 0xC3
  | .cpyZp zp => [0xC4, zp]
  | .cmpZp zp => [0xC5, zp]
  | .decZp zp => [0xC6, zp]
  | .unsupC7 => skippedBytes ul 0xC7
  | .iny => [0xC8]
  | .cmpImm m => [0xC9, m]
  | .dex => [0xCA]
  | .unsupCB => skippedBytes ul 0xCB
  | .cpyAbs addr => [0xCC, loByte addr, hiByte addr]
  | .cmpAbs addr => [0xCD, loByte addr, hiByte addr]
  | .decAbs addr => [0xCE, loByte addr, hiByte addr]
  | .unsupCF => skippedBytes ul 0xCF
  | .bne off => [0xD0, off]
  | .cmpIzy zp => [0xD1, zp]
  | .unsupD2 => skippedBytes ul 0xD2
  | .unsupD3 => skippedBytes ul 0xD3
  | .unsupD4 => skippedBytes ul 0xD4
  | .cmpZpx zp => [0xD5, zp]
  | .decZpx zp => [0xD6, zp]
  | .unsupD7 => skippedBytes ul 0xD7
  | .cld => [0xD8]
  | .cmpAby base => [0xD9, loByte base, hiByte base]
  | .unsupDA => skippedBytes ul 0xDA
  | .unsupDB => skippedBytes ul 0xDB
  | .unsupDC => skippedBytes ul 0xDC
  | .cmpAbx base => [0xDD, loByte base, hiByte base]
  | .decAbx base => [0xDE, loByte base, hiByte base]
  | .unsupDF => skippedBytes ul 0xDF
  | .cpxImm m => [0xE0, m]
  | .sbcIzx zp => [0xE1, zp]
  | .unsupE2 => skippedBytes ul 0xE2
  | .unsupE3 => skippedBytes ul 0xE3
  | .cpxZp zp => [0xE4, zp]
  | .sbcZp zp => [0xE5, zp]
  | .incZp zp => [0xE6, zp]
  | .unsupE7 => skippedBytes ul 0xE7
  | .inx => [0xE8]
  | .sbcImm m => [0xE9, m]
  | .nop => [0xEA]
  | .unsupEB => skippedBytes ul 0xEB
  | .cpxAbs addr => [0xEC, loByte addr, hiByte addr]
  | .sbcAbs addr => [0xED, loByte addr, hiByte addr]
  | .incAbs addr => [0xEE, loByte addr, hiByte addr]
  | .unsupEF => skippedBytes ul 0xEF
  | .beq off => [0xF0, off]
  | .sbcIzy zp => [0xF1, zp]
  | .unsupF2 => skippedBytes ul 0xF2
  | .unsupF3 => skippedBytes ul 0xF3
  | .unsupF4 => skippedBytes ul 0xF4
  | .sbcZpx zp => [0xF5, zp]
  | .incZpx zp => [0xF6, zp]
  | .unsupF7 => skippedBytes ul 0xF7
  | .sed => [0xF8]
  | .sbcAby base => [0xF9, loByte base, hiByte base]
  | .unsupFA => skippedBytes ul 0xFA
  | .unsupFB => skippedBytes ul 0xFB
  | .unsupFC => skippedBytes ul 0xFC
  | .sbcAbx base => [0xFD, loByte base, hiByte base]
  | .incAbx base => [0xFE, loByte base, hiByte base]
  | .unsupFF => skippedBytes ul 0xFF

/-- The opcode byte of an instruction; UNSUP_LEN does not enter into it. -/
def Instr.opcode (i : Instr) : Byte := (encode defaultUnsupLen i).headD 0

/-- The length in bytes: `len` of 30 R95, or UNSUP_LEN (30 R93). -/
def Instr.length (ul : ByteTable UnsupLength) (i : Instr) : Nat := (encode ul i).length

/-- How many bytes `step()` reads: all of a supported instruction, the opcode alone of an unsupported one (20 R68, 45 R222). -/
def Instr.fetched (ul : ByteTable UnsupLength) (i : Instr) : Nat :=
  if unsupportedByte i.opcode then 1 else i.length ul

/-- Why a byte string is no instruction. -/
inductive DecodeError
  /-- There is no byte at all. -/
  | noBytes
  /-- The operand bytes of this opcode are missing. -/
  | truncated (op : Byte)
  deriving DecidableEq, Repr

/-- The first instruction of a byte string and the bytes after it, with `ul` for UNSUP_LEN. Total: every opcode byte has its
row (30 R93), so only a string that ends too early is refused. -/
def decode (ul : ByteTable UnsupLength) : List Byte → Except DecodeError (Instr × List Byte)
  | [] => .error .noBytes
  | op :: rest =>
    let i := decode3 op (rest.getD 0 0) (rest.getD 1 0)
    if rest.length + 1 < i.fetched ul then .error (.truncated op) else .ok (i, rest.drop (i.length ul - 1))

/-- The bytes of an instruction whose bits are `w`, the first byte its low 8 bits: three of them, the longest length. -/
def tableBytes (nbits w : Nat) : List Byte :=
  let v := w % 2 ^ nbits
  [BitVec.ofNat 8 v, BitVec.ofNat 8 (v / 256), BitVec.ofNat 8 (v / 65536)]

/-- The instruction that the decoder reads from an instruction whose bits are `w`, at the default of UNSUP_LEN. -/
def decodeTableWord (nbits w : Nat) : Option Instr :=
  match decode defaultUnsupLen (tableBytes nbits w) with
  | .ok (i, _) => some i
  | .error _ => none

end Sys2Proof
end

