-- ==== Sys2Proof/Machine/Memory.lean ====
section
/-! DEFINITION. The backing array (10 R29): 65536 bytes, held as the list of those that differ from 0x00, the value every
byte has at construction and outside the image after a load. -/

namespace Sys2Proof.Machine

/-- The listed bytes: addresses strictly rising, each below 65536, no byte equal to `Memory.unlisted`. -/
abbrev Memory := List Host.Cell

/-- What an unlisted address reads as (10 R29, 70 R403: memory is all 0x00 at construction). -/
def Memory.unlisted : Byte := 0x00

/-- The size of the address space (20 R60). -/
def Memory.size : Nat := 65536

/-- `mem[a]`. -/
def Memory.read : Memory → Nat → Byte
  | [], _ => Memory.unlisted
  | (k, v) :: rest, a => if k = a then v else Memory.read rest a

/-- `mem[a] <- v`, in canonical form. -/
def Memory.write : Memory → Nat → Byte → Memory
  | [], a, v => if v = Memory.unlisted then [] else [(a, v)]
  | (k, w) :: rest, a, v =>
    if a < k then (if v = Memory.unlisted then (k, w) :: rest else (a, v) :: (k, w) :: rest)
    else if a = k then (if v = Memory.unlisted then rest else (a, v) :: rest)
    else (k, w) :: Memory.write rest a v

/-- The canonical form, for addresses from `lo` up. -/
def Memory.wfFrom : Nat → Memory → Bool
  | _, [] => true
  | lo, (k, v) :: rest =>
    decide (lo ≤ k) && decide (k < Memory.size) && decide (v ≠ Memory.unlisted) && Memory.wfFrom (k + 1) rest

/-- The canonical form. -/
def Memory.wf (m : Memory) : Bool := Memory.wfFrom 0 m

/-- A memory that is all 0x00 but for the bytes of an image from address `base` on; bytes that would lie at 65536 or above
are dropped (70 R413, R415). -/
def Memory.ofImage : Nat → List Byte → Memory
  | _, [] => []
  | base, b :: rest =>
    if base < Memory.size then
      (if b = Memory.unlisted then Memory.ofImage (base + 1) rest else (base, b) :: Memory.ofImage (base + 1) rest)
    else []

end Sys2Proof.Machine
end

