-- ==== Sys2Proof/Machine/Types.lean ====
section
/-! DEFINITION. The types of the parts of the state: the RegisterCache, the engine, the song, the playback state, and the
model's own record of where inside a host call the machine is. -/

namespace Sys2Proof.Machine

/-- The RegisterCache (10 R30). -/
structure RegisterCache where
  /-- The shadow bytes of the window, by offset. -/
  shadow : Vector Byte 32
  /-- The shadow bytes of the offsets from 32 on, which only a WIN_SIZE above 32 admits. DESIGN CHOICE (log 32). -/
  more : Memory
  /-- The gate bit of the last CONTROL write of a voice. -/
  prevGate : PerVoice Bool
  /-- The frequency captured at the last gate 0 to 1; 0 means none captured. -/
  baseFreq : PerVoice Word
  deriving DecidableEq, Repr

/-- The envelope's stage (10 R37). -/
inductive Stage
  | idle
  | attack
  | decay
  | sustain
  | release
  deriving DecidableEq, Repr

/-- One voice (10 R37). -/
structure Voice where
  /-- Bit 0 triangle, 1 sawtooth, 2 pulse, 3 noise. -/
  wave : BitVec 4
  /-- The pulse width. -/
  pw : BitVec 12
  /-- The oscillator's phase, in [0, 1). -/
  phase : TemperedReal
  /-- The noise register. -/
  lfsr : BitVec 23
  test : Bool
  sync : Bool
  ring : Bool
  stage : Stage
  /-- The envelope's level, in [0, 1]. -/
  level : Number
  /-- The attack nibble. -/
  att : BitVec 4
  /-- The decay nibble. -/
  dec : BitVec 4
  /-- The sustain nibble. -/
  sus : BitVec 4
  /-- The release nibble. -/
  rel : BitVec 4
  gate : Bool
  /-- The MIDI note. -/
  note : Fin 128
  /-- The MIDI velocity. -/
  vel : Fin 128
  hz : TemperedReal
  ratio : Number
  deriving DecidableEq, Repr

/-- The Chip Synthesizer Engine (10 R37, R38). -/
structure Engine where
  voices : PerVoice Voice
  /-- The filter's normalised cutoff, in [0, 1]. -/
  cutoff : Number
  /-- The filter's resonance, in [0, 1]. -/
  res : Number
  mode : FilterMode
  /-- Which voices feed the filter. -/
  route : PerVoice Bool
  /-- The filter's low-pass state. -/
  low : FilterReal
  /-- The filter's band-pass state. -/
  band : FilterReal
  /-- The master volume nibble. -/
  volume : BitVec 4
  /-- The sample rate in Hz. -/
  fs : Number
  deriving DecidableEq, Repr

/-- SongInfo (10 R39, 70 R411, R416). -/
structure SongInfo where
  title : Vector Byte 32
  author : Vector Byte 32
  released : Vector Byte 32
  /-- The header's version: stored, read by no rule (70 R411). -/
  version : Word
  /-- The header's data offset as it stands in the file (70 R411). -/
  dataOffset : Word
  loadAddr : Word
  initAddr : Word
  playAddr : Word
  /-- One past the last loaded byte, 0 to 0x10000. -/
  loadEnd : Nat
  songs : Word
  /-- 0-based. -/
  defaultSong : Nat
  speed : BitVec 32
  loaded : Bool
  deriving DecidableEq, Repr

/-- The timing mode (10 R40). -/
inductive Timing
  | slow
  | fast
  deriving DecidableEq, Repr

/-- PlaybackState (10 R40). -/
structure PlaybackState where
  playing : Bool
  subsong : Nat
  acc : Number
  elapsedMs : Number
  timing : Timing
  /-- The play address in effect, 0 meaning none. -/
  playEff : Word
  deriving DecidableEq, Repr

/-- The configuration fields that the host sets while the machine runs (00 R8, 48 R323, R324, 49 R347, R356). -/
structure Controls where
  mute : PerVoice Bool
  gain : Number
  loopDetectionDisabled : Bool
  /-- Whether a position callback is bound (49 R347). -/
  callbackBound : Bool
  deriving DecidableEq, Repr

/-- A call the host makes (00 R8, 49 R331). -/
inductive HostCall
  | load (bytes : List Byte)
  | start
  | stop
  | process (count : Nat)
  | selectSubsong (n : Nat)
  | setMute (v : VoiceId) (on : Bool)
  | setGain (g : Number)
  | setLoopDetectionDisabled (off : Bool)
  | bindCallback (bound : Bool)
  deriving DecidableEq, Repr

/-- How an execution burst ended (49 R339). -/
inductive BurstEnd
  | returned
  | budget
  | stuckPC
  | stackDrift
  deriving DecidableEq, Repr

/-- Who runs a burst: `start()`, or `process()` with that many output frames left, the current one included. -/
inductive Caller
  | init
  | play (left : Nat)
  deriving DecidableEq, Repr

/-- Where inside a host call the machine is (00 R8; log 8). -/
inductive Task
  /-- Between host calls. -/
  | idle
  /-- Inside RunBurst, with its locals `sp_in` and `used` (49 R339). -/
  | burst (caller : Caller) (spIn : Byte) (used : Nat)
  /-- RunBurst has returned to its caller. -/
  | burstDone (caller : Caller) (how : BurstEnd)
  /-- Inside `process`, at the start of an output frame, with that many frames left. -/
  | frame (left : Nat)
  /-- Inside `process`, before the engine sample of the current output frame. -/
  | sample (left : Nat)
  deriving DecidableEq, Repr

/-- The events E1 to E6 with what they record (60 R372). -/
inductive Event
  | unsupported (op : Byte) (pc : Word)
  | burstBudget
  | burstStuckPC
  | burstStackDrift
  | loadError
  | noPlayRoutine
  deriving DecidableEq, Repr

end Sys2Proof.Machine
end

