-- ==== Sys2Proof/Machine/Defaults.lean ====
section
/-! DEFINITION. The default parameter values of 00_scope.md rule R6 and the values at construction of each part of the
state (10 R42). -/

namespace Sys2Proof.Machine

/-- ATTACK_S (47 R290). -/
def defaultAttackS : Vector Number 16 :=
  (#v[2/1000, 8/1000, 16/1000, 24/1000, 38/1000, 56/1000, 68/1000, 80/1000,
     100/1000, 250/1000, 500/1000, 800/1000, 1, 3, 5, 8] : Vector Rat 16).map Number.rat

/-- DECREL_S (47 R290). -/
def defaultDecRelS : Vector Number 16 :=
  (#v[6/1000, 24/1000, 48/1000, 72/1000, 114/1000, 168/1000, 204/1000, 240/1000,
     300/1000, 750/1000, 1500/1000, 2400/1000, 3, 9, 15, 24] : Vector Rat 16).map Number.rat

/-- CYCLES at its default, the `cyc` column of 30 R95 (30 R101); 2 stands at the unsupported bytes, where it is not read. -/
def defaultCycles : ByteTable Nat :=
  #v[#v[7, 6, 2, 2, 2, 3, 5, 2, 3, 2, 2, 2, 2, 4, 6, 2],
    #v[2, 5, 2, 2, 2, 4, 6, 2, 2, 4, 2, 2, 2, 4, 7, 2],
    #v[6, 6, 2, 2, 3, 3, 5, 2, 4, 2, 2, 2, 4, 4, 6, 2],
    #v[2, 5, 2, 2, 2, 4, 6, 2, 2, 4, 2, 2, 2, 4, 7, 2],
    #v[6, 6, 2, 2, 2, 3, 5, 2, 3, 2, 2, 2, 3, 4, 6, 2],
    #v[2, 5, 2, 2, 2, 4, 6, 2, 2, 4, 2, 2, 2, 4, 7, 2],
    #v[6, 6, 2, 2, 2, 3, 5, 2, 4, 2, 2, 2, 5, 4, 6, 2],
    #v[2, 5, 2, 2, 2, 4, 6, 2, 2, 4, 2, 2, 2, 4, 7, 2],
    #v[2, 6, 2, 2, 3, 3, 3, 2, 2, 2, 2, 2, 4, 4, 4, 2],
    #v[2, 6, 2, 2, 4, 4, 4, 2, 2, 5, 2, 2, 2, 5, 2, 2],
    #v[2, 6, 2, 2, 3, 3, 3, 2, 2, 2, 2, 2, 4, 4, 4, 2],
    #v[2, 5, 2, 2, 4, 4, 4, 2, 2, 4, 2, 2, 4, 4, 4, 2],
    #v[2, 6, 2, 2, 3, 3, 5, 2, 2, 2, 2, 2, 4, 4, 6, 2],
    #v[2, 5, 2, 2, 2, 4, 6, 2, 2, 4, 2, 2, 2, 4, 7, 2],
    #v[2, 6, 2, 2, 3, 3, 5, 2, 2, 2, 2, 2, 4, 4, 6, 2],
    #v[2, 5, 2, 2, 2, 4, 6, 2, 2, 4, 2, 2, 2, 4, 7, 2]]

/-- The sample rate at reset. DESIGN CHOICE (log 4): the host supplies it and the spec gives no value; 44100 is the rate
of the spec's own vectors. -/
def defaultSampleRate : Number := .rat 44100

/-- The parameters at the spec's defaults (00 R6). -/
def defaultParams : Params where
  dropped := []
  unsupLen := defaultUnsupLen
  unsupCycles := 2
  cycles := defaultCycles
  pagePenalty := true
  resetA := 0x00
  resetX := 0x00
  resetY := 0x00
  resetSP := 0xFD
  resetP := 0x24
  resetPC := 0x0000
  jmpIndWrap := true
  stackPage := 0x0100
  brkVector := 0xFFFE
  winBase := 0xD400
  winSize := 32
  clockRatio := .rat (149/2500)
  hzMin := .rat 20
  hzMax := .rat 20000
  velocity := 127
  pitchTrack := false
  modePriority := [.lp, .bp, .hp]
  attackS := defaultAttackS
  decRelS := defaultDecRelS
  filter := .stateVariable
  mixScale := .rat (1/3)
  num := .exact
  frameRateSlow := .rat 50
  frameRateFast := .rat 60
  slowIsDefault := true
  sentinelPC := 0xFFFF
  maxCycles := Config.maxCycles
  spGuard := .aboveEntry
  vecSearch := [0x0314, 0xFFFE]
  headerSize := 118
  sampleRate := defaultSampleRate

/-- The RegisterCache at construction and after a load (10 R30). -/
def resetCache : RegisterCache :=
  { shadow := Vector.replicate 32 0x00, more := [], prevGate := PerVoice.all false, baseFreq := PerVoice.all 0x0000 }

/-- The initial value of the noise register (47 R296). -/
def lfsrSeed : BitVec 23 := 0x7FFFF8

/-- A voice in the reset column of 10 R37. -/
def resetVoice : Voice where
  wave := 0
  pw := 0
  phase := TemperedReal.ofNumber (.rat 0)
  lfsr := lfsrSeed
  test := false
  sync := false
  ring := false
  stage := .idle
  level := .rat 0
  att := 0
  dec := 0
  sus := 0
  rel := 0
  gate := false
  note := 0
  vel := 0
  hz := TemperedReal.ofNumber (.rat 0)
  ratio := .rat 1

/-- The engine in the reset column of 10 R37 and R38, at a given sample rate (47 R304: `reset()` leaves `fs`). -/
def resetEngine (fs : Number) : Engine where
  voices := PerVoice.all resetVoice
  cutoff := .rat 0
  res := .rat 0
  mode := .off
  route := PerVoice.all false
  low := FilterReal.zero
  band := FilterReal.zero
  volume := 0
  fs := fs

/-- SongInfo at construction (10 R39). -/
def resetSong : SongInfo where
  title := Vector.replicate 32 0x00
  author := Vector.replicate 32 0x00
  released := Vector.replicate 32 0x00
  version := 0
  dataOffset := 0
  loadAddr := 0
  initAddr := 0
  playAddr := 0
  loadEnd := 0
  songs := 0
  defaultSong := 0
  speed := 0
  loaded := false

/-- PlaybackState at construction (10 R40). -/
def resetPlay : PlaybackState :=
  { playing := false, subsong := 0, acc := .rat 0, elapsedMs := .rat 0, timing := .slow, playEff := 0 }

/-- The host-set configuration at its defaults (00 R6); that no callback is bound is a DESIGN CHOICE (log 20). -/
def resetControls : Controls :=
  { mute := PerVoice.all false, gain := .rat 1, loopDetectionDisabled := false, callbackBound := false }

end Sys2Proof.Machine
end

