-- ==== Sys2Proof/Machine/Num.lean ====
section
/-! DEFINITION. Arithmetic in the numeric domain NUM of the engine and the scheduler (47 R303, 93 I21). In the reference
domain a result is the exact one; in a rounding domain it is the exact one rounded, to a number the spec does not give (log
29), but for the integers below `2 ^ 24` in size, which every domain holds (log 34). -/

namespace Sys2Proof

open Machine (Number TemperedReal FilterReal)

/-- Whether every domain holds the number: the integers below `2 ^ 24` in size. 49 R346 has the accumulator exact in
floating point for an integer `spf` below `2 ^ 24`. DEDUCED (log 34). -/
def heldExactly (x : Rat) : Bool := decide (x.den = 1) && decide (x.num.natAbs < 2 ^ 24)

/-- The result `x` of an operation, in the rounding domain with number `n`. -/
def rounded (n : Nat) (x : Number) : Rat :=
  match x.rational with
  | some q => if heldExactly q then q else Config.round n x
  | none => Config.round n x

/-- The result of an operation, in the domain. -/
def NumDomain.of (num : NumDomain) (x : Number) : Number :=
  match num with
  | .exact => x
  | .rounding n => .rat (rounded n x)

/-- The sum. -/
def NumDomain.add (num : NumDomain) (x y : Number) : Number := num.of (x.add y)

/-- The difference. -/
def NumDomain.sub (num : NumDomain) (x y : Number) : Number := num.of (x.sub y)

/-- The product. -/
def NumDomain.mul (num : NumDomain) (x y : Number) : Number := num.of (x.mul y)

/-- The quotient. -/
def NumDomain.div (num : NumDomain) (x y : Number) : Number := num.of (x.div y)

/-- A frequency or a phase that is the result of an operation, in the domain; a number is rounded alike however it is held. -/
def NumDomain.ofTempered (num : NumDomain) (x : TemperedReal) : TemperedReal :=
  match num with
  | .exact => x
  | .rounding n =>
    TemperedReal.ofNumber (.rat (match x.number with | some a => rounded n a | none => Config.roundTempered n x))

/-- The sum of two frequencies or phases. -/
def NumDomain.temperedAdd (num : NumDomain) (x y : TemperedReal) : TemperedReal := num.ofTempered (x.add y)

/-- A multiple of a frequency or a phase. -/
def NumDomain.temperedMul (num : NumDomain) (q : Number) (x : TemperedReal) : TemperedReal := num.ofTempered (x.scale q)

/-- A quotient of a frequency or a phase. -/
def NumDomain.temperedDiv (num : NumDomain) (x : TemperedReal) (q : Number) : TemperedReal := num.ofTempered (x.divide q)

/-- The fraction, `x - floor(x)`; the floor is that of the number held. -/
def NumDomain.temperedFrac (num : NumDomain) (x : TemperedReal) : TemperedReal := num.ofTempered x.frac

/-- A number of the filter that is the result of an operation, in the domain. -/
def NumDomain.ofFilter (num : NumDomain) (x : FilterReal) : FilterReal :=
  match num with
  | .exact => x
  | .rounding n => .number (.rat (match x with
    | .number a => rounded n a
    | .sum _ _ | .multiple _ _ | .sine _ _ | .replaced .. => Config.roundFilter n x))

/-- The sum of two numbers of the filter. -/
def NumDomain.filterAdd (num : NumDomain) (x y : FilterReal) : FilterReal := num.ofFilter (x.add y)

/-- The difference of two numbers of the filter. -/
def NumDomain.filterSub (num : NumDomain) (x y : FilterReal) : FilterReal := num.ofFilter (x.add (y.scale (.rat (-1))))

/-- A multiple of a number of the filter. -/
def NumDomain.filterMul (num : NumDomain) (q : Number) (x : FilterReal) : FilterReal := num.ofFilter (x.scale q)

end Sys2Proof
end

