-- ==== Sys2Proof/Machine/Engine.lean ====
section
/-! DEFINITION. The setters of the Chip Synthesizer Engine (47_synth_engine.md rules R271 to R289, R304). Each changes the
fields its rule names and nothing else (47 R305 (f)). Those that compute a number do so in the numeric domain `num`. -/

namespace Sys2Proof.Machine

/-- Voice `v` changed by `f`. -/
def Engine.onVoice (v : VoiceId) (f : Voice → Voice) (e : Engine) : Engine :=
  { e with voices := e.voices.set v (f (e.voices.get v)) }

/-- `set_waveform(v, m)` (47 R272). -/
def Engine.setWaveform (v : VoiceId) (m : BitVec 4) (e : Engine) : Engine :=
  e.onVoice v fun w => { w with wave := m }

/-- `set_test(v, t)` (47 R273). -/
def Engine.setTest (v : VoiceId) (t : Bool) (e : Engine) : Engine :=
  e.onVoice v fun w => { w with test := t }

/-- `set_sync(v, s)` (47 R274). -/
def Engine.setSync (v : VoiceId) (s : Bool) (e : Engine) : Engine :=
  e.onVoice v fun w => { w with sync := s }

/-- `set_ring(v, r)` (47 R275). -/
def Engine.setRing (v : VoiceId) (r : Bool) (e : Engine) : Engine :=
  e.onVoice v fun w => { w with ring := r }

/-- `set_pulse_width(v, w)` (47 R276). -/
def Engine.setPulseWidth (v : VoiceId) (pw : BitVec 12) (e : Engine) : Engine :=
  e.onVoice v fun w => { w with pw := pw }

/-- `set_attack(v, n)` (47 R277). -/
def Engine.setAttack (v : VoiceId) (n : BitVec 4) (e : Engine) : Engine :=
  e.onVoice v fun w => { w with att := n }

/-- `set_decay(v, n)` (47 R278). -/
def Engine.setDecay (v : VoiceId) (n : BitVec 4) (e : Engine) : Engine :=
  e.onVoice v fun w => { w with dec := n }

/-- `set_sustain(v, n)` (47 R279). -/
def Engine.setSustain (v : VoiceId) (n : BitVec 4) (e : Engine) : Engine :=
  e.onVoice v fun w => { w with sus := n }

/-- `set_release(v, n)` (47 R280). -/
def Engine.setRelease (v : VoiceId) (n : BitVec 4) (e : Engine) : Engine :=
  e.onVoice v fun w => { w with rel := n }

/-- `note_on` on one voice (47 R281): level and phase stay. DESIGN CHOICE (log 29): in a rounding domain the whole of
`440 * 2^((n - 69) / 12)` is one operation, rounded once. -/
def Voice.noteOn (num : NumDomain) (n vel : Fin 128) (w : Voice) : Voice :=
  { w with note := n, vel := vel, hz := num.ofTempered (noteHz n), ratio := .rat 1, gate := true, stage := .attack }

/-- `note_on(v, n, vel)` (47 R281). -/
def Engine.noteOn (num : NumDomain) (v : VoiceId) (n vel : Fin 128) (e : Engine) : Engine :=
  e.onVoice v (Voice.noteOn num n vel)

/-- `set_pitch_ratio(v, q)` (47 R282). -/
def Engine.setPitchRatio (v : VoiceId) (q : Number) (e : Engine) : Engine :=
  e.onVoice v fun w => { w with ratio := q }

/-- `note_off` on one voice (47 R283): an Idle voice stays Idle, any other goes to Release. -/
def Voice.noteOff (w : Voice) : Voice :=
  { w with gate := false, stage := if w.stage = .idle then .idle else .release }

/-- `note_off(v)` (47 R283). -/
def Engine.noteOff (v : VoiceId) (e : Engine) : Engine := e.onVoice v Voice.noteOff

/-- `set_filter_cutoff(c)` (47 R284). -/
def Engine.setFilterCutoff (num : NumDomain) (c : BitVec 11) (e : Engine) : Engine :=
  { e with cutoff := num.div (.nat c.toNat) (.rat 2047) }

/-- `set_filter_resonance(n)` (47 R286). -/
def Engine.setFilterResonance (num : NumDomain) (n : BitVec 4) (e : Engine) : Engine :=
  { e with res := num.div (.nat n.toNat) (.rat 15) }

/-- `set_filter_routing(v, on)` (47 R287). -/
def Engine.setFilterRouting (v : VoiceId) (on : Bool) (e : Engine) : Engine := { e with route := e.route.set v on }

/-- `set_filter_mode(m)` (47 R288): the filter's state is not reset. -/
def Engine.setFilterMode (m : FilterMode) (e : Engine) : Engine := { e with mode := m }

/-- `set_volume(n)` (47 R289). -/
def Engine.setVolume (n : BitVec 4) (e : Engine) : Engine := { e with volume := n }

/-- `set_sample_rate(fs)` (47 R304). -/
def Engine.setSampleRate (fs : Number) (e : Engine) : Engine := { e with fs := fs }

/-- `reset()`: the reset column of 10 R37 and R38, except `fs` (47 R304). -/
def Engine.restart (e : Engine) : Engine := resetEngine e.fs

end Sys2Proof.Machine
end

