-- ==== Sys2Proof/Machine/Bridge.lean ====
section
/-! DEFINITION. The Memory & Register Bridge: the decode of register-window writes (46_register_bridge.md). -/

namespace Sys2Proof.Machine

/-- The registers of the window (10 R31). -/
inductive WindowReg
  | freqLo (v : VoiceId)
  | freqHi (v : VoiceId)
  | pwLo (v : VoiceId)
  | pwHi (v : VoiceId)
  | control (v : VoiceId)
  | attackDecay (v : VoiceId)
  | sustainRelease (v : VoiceId)
  | fcLo
  | fcHi
  | resFilt
  | modeVol
  | unnamed
  deriving DecidableEq, Repr

/-- The register at a window offset: for offsets up to 20 voice `o div 7` and register `o mod 7` (10 R31, 46 R232). The
offsets from 32 on, which a WIN_SIZE above 32 admits, are unnamed too (log 32). -/
def windowReg (o : Nat) : WindowReg :=
  if h : o ≤ 20 then
    let v : VoiceId := ⟨o / 7, by omega⟩
    match o % 7 with
    | 0 => .freqLo v
    | 1 => .freqHi v
    | 2 => .pwLo v
    | 3 => .pwHi v
    | 4 => .control v
    | 5 => .attackDecay v
    | _ => .sustainRelease v
  else
    match o with
    | 21 => .fcLo
    | 22 => .fcHi
    | 23 => .resFilt
    | 24 => .modeVol
    | _ => .unnamed

/-- `shadow[o]` (20 R62); from offset 32 on see log 32. -/
def RegisterCache.shadowByte (c : RegisterCache) (o : Nat) : Byte := if h : o < 32 then c.shadow[o] else c.more.read o

/-- The shadow byte of register `k` of voice `v`, at offset `7 * v + k` (10 R31). -/
def RegisterCache.voiceByte (c : RegisterCache) (v : VoiceId) (k : Fin 7) : Byte :=
  c.shadow[7 * v.val + k.val]'(by omega)

/-- `freq16(v)` (10 R35). -/
def RegisterCache.freq16 (c : RegisterCache) (v : VoiceId) : Word := wordOf (c.voiceByte v 1) (c.voiceByte v 0)

/-- `pw12(v)` (10 R35). -/
def RegisterCache.pw12 (c : RegisterCache) (v : VoiceId) : BitVec 12 :=
  (c.voiceByte v 3).extractLsb' 0 4 ++ c.voiceByte v 2

/-- `cutoff11` (10 R35). -/
def RegisterCache.cutoff11 (c : RegisterCache) : BitVec 11 :=
  c.shadow[0x16] ++ (c.shadow[0x15]).extractLsb' 0 3

/-- The frequency that a register value stands for, `f * CLOCK_RATIO` (46 R242). -/
def registerHz (p : Params) (f : Word) : Number := p.num.mul (.nat f.toNat) p.clockRatio

/-- `Note(hz)` over exact reals (46 R243): the number of n in 1 .. 127 with `n - 1/2 <= 12 * log2(hz / 440) + 69`, that is
with `2^(2n - 139) <= (hz / 440)^24`. It is the rounded logarithm clamped to 0 .. 127 (log 5). -/
def noteOf (hz : Number) : Fin 128 :=
  Fin.ofNat 128 ((List.range 127).countP fun k => Number.le (.rat (4 ^ (k + 1) / 2 ^ 139)) ((hz.div (.rat 440)).pow 24))

/-- `clamp(round(x), 0, 127)`: below 0 the clamp hides which way a tie of the rounding goes (00 R14, 46 R243). -/
def clampNote (x : Rat) : Fin 128 := Fin.ofNat 128 (min 127 (x + 1 / 2).floor.toNat)

/-- `Note(hz)` (46 R243); in a rounding domain from its rounded logarithm (log 29). A frequency that is not above 0 has none,
and its note is a free value (log 31). -/
def noteIn (num : NumDomain) (hz : Number) : Fin 128 :=
  if Number.lt (.rat 0) hz then
    match num with
    | .exact => noteOf hz
    | .rounding n =>
      clampNote (rounded n ((num.mul (.rat 12) (.rat (Config.log2 n (num.div hz (.rat 440))))).add (.rat 69)))
  else Config.noteWithoutLog hz

/-- Whether `hz` is in the audible range (46 R242). -/
def audible (p : Params) (hz : Number) : Bool := p.hzMin.le hz && hz.le p.hzMax

/-- The four cases of the gate bit of a CONTROL write (46 R238). -/
inductive GateEdge
  | rise
  | fall
  | held
  | low
  deriving DecidableEq, Repr

/-- The case, from the previous and the new gate bit (46 R238). -/
def gateEdge (prev new : Bool) : GateEdge :=
  match prev, new with
  | false, true => .rise
  | true, false => .fall
  | true, true => .held
  | false, false => .low

/-- The setter calls of a CONTROL write (46 R239, R240, R241). -/
def controlSetters (v : VoiceId) (b : Byte) (c : RegisterCache) (e : Engine) : Engine :=
  ((((e.setWaveform v (b.extractLsb' 4 4)).setTest v (b.getLsbD 3)).setRing v (b.getLsbD 2)).setSync v
    (b.getLsbD 1)).setPulseWidth v (c.pw12 v)

/-- The engine call of the gate handling (46 R242, R244). -/
def gateAction (p : Params) (v : VoiceId) (edge : GateEdge) (c : RegisterCache) (e : Engine) : Engine :=
  match edge with
  | .rise =>
    if audible p (registerHz p (c.freq16 v)) then
      e.noteOn p.num v (noteIn p.num (registerHz p (c.freq16 v))) p.velocity
    else e
  | .fall => e.noteOff v
  | .held =>
    if p.pitchTrack && decide (c.baseFreq.get v ≠ 0) then
      e.setPitchRatio v (p.num.div (.nat (c.freq16 v).toNat) (.nat (c.baseFreq.get v).toNat))
    else e
  | .low => e

/-- The cache after the gate handling: `base_freq` captured at 0 to 1 and cleared at 1 to 0, `prev_gate` updated
(46 R238, R242, R244). -/
def gateCache (v : VoiceId) (new : Bool) (c : RegisterCache) : RegisterCache :=
  { c with
    baseFreq := match gateEdge (c.prevGate.get v) new with
      | .rise => c.baseFreq.set v (c.freq16 v)
      | .fall => c.baseFreq.set v 0
      | .held => c.baseFreq
      | .low => c.baseFreq
    prevGate := c.prevGate.set v new }

/-- `Mode(b)`: Off if no mode bit is set, else the first of MODE_PRIORITY whose bit is 1 (46 R249). -/
def modeOf (p : Params) (b : Byte) : FilterMode :=
  (p.modePriority.find? fun m =>
    match m with
    | .lp => b.getLsbD 4
    | .bp => b.getLsbD 5
    | .hp => b.getLsbD 6
    | .off => false).getD .off

/-- The shadow update of a window write, `shadow[o] <- b` (46 R232); from offset 32 on see log 32. -/
def RegisterCache.setShadow (o : Nat) (b : Byte) (c : RegisterCache) : RegisterCache :=
  if h : o < 32 then { c with shadow := c.shadow.set o b } else { c with more := c.more.write o b }

/-- The cache after a window write: the shadow update, and for CONTROL the gate handling (46 R232, R238). -/
def bridgeCache (o : Nat) (b : Byte) (c : RegisterCache) : RegisterCache :=
  match windowReg o with
  | .control v => gateCache v (b.getLsbD 0) (c.setShadow o b)
  | .freqLo _ => c.setShadow o b
  | .freqHi _ => c.setShadow o b
  | .pwLo _ => c.setShadow o b
  | .pwHi _ => c.setShadow o b
  | .attackDecay _ => c.setShadow o b
  | .sustainRelease _ => c.setShadow o b
  | .fcLo => c.setShadow o b
  | .fcHi => c.setShadow o b
  | .resFilt => c.setShadow o b
  | .modeVol => c.setShadow o b
  | .unnamed => c.setShadow o b

/-- The engine calls of a write to a register, `c` being the cache after the shadow update (46 R236 to R250). -/
def dispatchWrite (p : Params) (reg : WindowReg) (b : Byte) (c : RegisterCache) (e : Engine) : Engine :=
  match reg with
  | .freqLo _ => e
  | .freqHi _ => e
  | .pwLo _ => e
  | .pwHi _ => e
  | .control v => gateAction p v (gateEdge (c.prevGate.get v) (b.getLsbD 0)) c (controlSetters v b c e)
  | .attackDecay v => (e.setAttack v (b.extractLsb' 4 4)).setDecay v (b.extractLsb' 0 4)
  | .sustainRelease v => (e.setSustain v (b.extractLsb' 4 4)).setRelease v (b.extractLsb' 0 4)
  | .fcLo => e.setFilterCutoff p.num c.cutoff11
  | .fcHi => e.setFilterCutoff p.num c.cutoff11
  | .resFilt =>
    (((e.setFilterResonance p.num (b.extractLsb' 4 4)).setFilterRouting 0 (b.getLsbD 0)).setFilterRouting 1
      (b.getLsbD 1)).setFilterRouting 2 (b.getLsbD 2)
  | .modeVol => (e.setFilterMode (modeOf p b)).setVolume (b.extractLsb' 0 4)
  | .unnamed => e

/-- The engine after a window write (46 R232). -/
def bridgeEngine (p : Params) (o : Nat) (b : Byte) (c : RegisterCache) (e : Engine) : Engine :=
  dispatchWrite p (windowReg o) b (c.setShadow o b) e

end Sys2Proof.Machine
end

