-- ==== Sys2Proof/Machine/Flags.lean ====
section
/-! DEFINITION. The packed status `P`, N V 1 B D I Z C from bit 7 down to bit 0 (10 R25), and every flag computation of the
instruction files. -/

namespace Sys2Proof.Machine

/-- `P.N` (10 R25). -/
def flagN (p : Byte) : Bool := p.getLsbD 7

/-- `P.V` (10 R25). -/
def flagV (p : Byte) : Bool := p.getLsbD 6

/-- `P.B`, 0 in the live `P` (10 R25). -/
def flagB (p : Byte) : Bool := p.getLsbD 4

/-- `P.D` (10 R25). -/
def flagD (p : Byte) : Bool := p.getLsbD 3

/-- `P.I` (10 R25). -/
def flagI (p : Byte) : Bool := p.getLsbD 2

/-- `P.Z` (10 R25). -/
def flagZ (p : Byte) : Bool := p.getLsbD 1

/-- `P.C` (10 R25). -/
def flagC (p : Byte) : Bool := p.getLsbD 0

/-- `P` with the bits of `mask` replaced by 1s if `b`, by 0s if not. -/
def putBits (mask : Byte) (b : Bool) (p : Byte) : Byte := if b then p ||| mask else p &&& ~~~mask

/-- `P.N <- b`. -/
def putN (b : Bool) (p : Byte) : Byte := putBits 0x80 b p

/-- `P.V <- b`. -/
def putV (b : Bool) (p : Byte) : Byte := putBits 0x40 b p

/-- `P.D <- b`. -/
def putD (b : Bool) (p : Byte) : Byte := putBits 0x08 b p

/-- `P.I <- b`. -/
def putI (b : Bool) (p : Byte) : Byte := putBits 0x04 b p

/-- `P.Z <- b`. -/
def putZ (b : Bool) (p : Byte) : Byte := putBits 0x02 b p

/-- `P.C <- b`. -/
def putC (b : Bool) (p : Byte) : Byte := putBits 0x01 b p

/-- `SetNZ(v)` (00 R12). -/
def setNZ (v p : Byte) : Byte := putN (v.getLsbD 7) (putZ (decide (v = 0)) p)

/-- The copy of `P` that PHP and BRK push (10 R25, 41 R145, 45 R219). -/
def pushedStatus (p : Byte) : Byte := p ||| 0x30

/-- The value that PLP and RTI load into `P` from a popped byte (41 R147, 44 R203). -/
def pulledStatus (v : Byte) : Byte := (v &&& 0xCF) ||| 0x20

/-- The 9-bit sum of ADC (42 R151). -/
def adcSum (a m : Byte) (c : Bool) : BitVec 9 := a.setWidth 9 + m.setWidth 9 + (BitVec.ofBool c).setWidth 9

/-- The result byte of ADC, `s[7:0]` (42 R151). -/
def adcResult (a m : Byte) (c : Bool) : Byte := (adcSum a m c).extractLsb' 0 8

/-- The carry of ADC, `s[8]` (42 R151). -/
def adcCarry (a m : Byte) (c : Bool) : Bool := (adcSum a m c).getLsbD 8

/-- The overflow of ADC (42 R151). -/
def adcOverflow (a m : Byte) (c : Bool) : Bool := (~~~(a ^^^ m) &&& (a ^^^ adcResult a m c)).getLsbD 7

/-- `P` after ADC: N, V, Z, C written (42 R151). The D flag is not read (42 R150). -/
def adcStatus (a m p : Byte) : Byte :=
  setNZ (adcResult a m (flagC p)) (putV (adcOverflow a m (flagC p)) (putC (adcCarry a m (flagC p)) p))

/-- `P` after a comparison of register value `r` with `m`: N, Z, C written (42 R153). -/
def compareStatus (r m p : Byte) : Byte :=
  putN ((r - m).getLsbD 7) (putZ (decide (r = m)) (putC (decide (m ≤ r)) p))

/-- `P` after BIT: Z from `A & M`, N and V from `M` (43 R173). -/
def bitStatus (a m p : Byte) : Byte :=
  putN (m.getLsbD 7) (putV (m.getLsbD 6) (putZ (decide (a &&& m = 0)) p))

/-- The result of ASL (43 R174). -/
def aslResult (v : Byte) : Byte := v <<< 1

/-- The result of LSR (43 R175). -/
def lsrResult (v : Byte) : Byte := v >>> 1

/-- The result of ROL with carry-in `c` (43 R176). -/
def rolResult (c : Bool) (v : Byte) : Byte := (v <<< 1) ||| (BitVec.ofBool c).setWidth 8

/-- The result of ROR with carry-in `c` (43 R177). -/
def rorResult (c : Bool) (v : Byte) : Byte := (v >>> 1) ||| ((BitVec.ofBool c).setWidth 8 <<< 7)

/-- `P` after a shift to the left of `v` with result `r`: C from bit 7 of `v` (43 R174, R176). -/
def leftStatus (v r p : Byte) : Byte := setNZ r (putC (v.getLsbD 7) p)

/-- `P` after a shift to the right of `v` with result `r`: C from bit 0 of `v` (43 R175, R177). -/
def rightStatus (v r p : Byte) : Byte := setNZ r (putC (v.getLsbD 0) p)

end Sys2Proof.Machine
end

