-- ==== Sys2Proof/Machine/State.lean ====
section
/-! DEFINITION. The machine's state: everything the spec gives the machine (10_state.md), and the model's own record of
the host's calls, of where inside one the machine is, and of its outputs. -/

namespace Sys2Proof.Machine

/-- Why the machine stops with a fault. It never does: the block raises no fault (60 R373), and every host call returns
for every input (60 R386). There is therefore no constructor, which is safe: nothing can be proved to fault. -/
inductive Fault
  deriving DecidableEq, Repr

/-- Why the model gives a step no meaning. -/
inductive Refusal
  /-- Raised by an arm of `exec` for an instruction that has no meaning yet; no arm does. Safe. -/
  | notModelled (mnemonic : String)
  /-- Raised by the host calls `start` and `process` when the sample rate is not positive (93 I31: refuse; log 13). Safe. -/
  | invalidSampleRate
  deriving DecidableEq, Repr

/-- The state of the machine. -/
structure State where
  /-- The accumulator (10 R21). -/
  a : Byte
  /-- The index register X (10 R22). -/
  x : Byte
  /-- The index register Y (10 R23). -/
  y : Byte
  /-- The stack pointer (10 R24). -/
  sp : Byte
  /-- The packed status, N V 1 B D I Z C (10 R25). -/
  p : Byte
  /-- The program counter (10 R26). -/
  pc : Word
  /-- The backing array (10 R29). -/
  mem : Memory
  /-- The RegisterCache (10 R30). -/
  cache : RegisterCache
  /-- The engine (10 R37, R38). -/
  engine : Engine
  /-- SongInfo (10 R39). -/
  song : SongInfo
  /-- PlaybackState (10 R40). -/
  play : PlaybackState
  /-- The diagnostic counter of unsupported opcodes (60 R371). -/
  unsupCount : Nat
  /-- The parameters (00 R6). -/
  params : Params
  /-- The configuration that the host sets (00 R8). -/
  ctl : Controls
  /-- The model's own: where inside a host call the machine is (log 8). -/
  task : Task
  /-- The model's own: the host calls made and not yet begun (log 7). -/
  calls : List HostCall
  /-- The model's own: what the last `step()` of the processor returned (log 12). -/
  cycles : Nat
  /-- The model's own: the output buffer of the current or last `process` call (48 R321; log 11). -/
  out : List FilterReal
  /-- The model's own: the position callbacks made, latest first (49 R347; log 11). -/
  callbacks : List (Nat × Number)
  /-- The model's own: the events raised, latest first (60 R372; log 11). -/
  events : List Event
  /-- The model's own: what the last `load` returned (70 R412; log 11). -/
  loadResult : Option Bool
  deriving DecidableEq, Repr

/-- A player instance right after construction (10 R42): the processor in its reset values (45 R223), memory, cache and
engine at zero (70 R403), no song, Stopped. -/
def State.reset : State where
  a := defaultParams.resetA
  x := defaultParams.resetX
  y := defaultParams.resetY
  sp := defaultParams.resetSP
  p := defaultParams.resetP
  pc := defaultParams.resetPC
  mem := []
  cache := resetCache
  engine := resetEngine defaultParams.sampleRate
  song := resetSong
  play := resetPlay
  unsupCount := 0
  params := defaultParams
  ctl := resetControls
  task := .idle
  calls := []
  cycles := 0
  out := []
  callbacks := []
  events := []
  loadResult := none

end Sys2Proof.Machine
end

