-- ==== Sys2Proof/Machine/Ops.lean ====
section
/-! DEFINITION. The named operations over registers and memory: the two hooks (20 R62, R63), the stack (41 R140 to R143),
entering and leaving a BRK frame (45 R219, 44 R203), the unsupported-opcode policy (45 R222), the core's reset (45 R223). -/

namespace Sys2Proof.Machine

/-- What a meaning answers. -/
abbrev Result := Host.Outcome State Fault Refusal

/-- `A <- v`. -/
def State.setA (s : State) (v : Byte) : State := { s with a := v }

/-- `X <- v`. -/
def State.setX (s : State) (v : Byte) : State := { s with x := v }

/-- `Y <- v`. -/
def State.setY (s : State) (v : Byte) : State := { s with y := v }

/-- `SP <- v`. -/
def State.setSP (s : State) (v : Byte) : State := { s with sp := v }

/-- `P <- v`. -/
def State.setP (s : State) (v : Byte) : State := { s with p := v }

/-- `PC <- target`. -/
def State.setPC (s : State) (target : Word) : State := { s with pc := target }

/-- An instruction of length `len` with opcode byte `op` is fetched, `PC <- PC +_16 len`, and the step will return
`CYCLES[op]` and `extra` more (30 R96, R101). -/
def State.retire (s : State) (len : Word) (op : Byte) (extra : Nat) : State :=
  { s with pc := s.pc + len, cycles := s.params.cycles.entry op + extra }

/-- An event is raised (60 R372). -/
def State.raise (s : State) (e : Event) : State := { s with events := e :: s.events }

/-- The window offset of an address: `WIN_BASE <= a <= WIN_BASE + WIN_SIZE - 1` as numbers (20 R61). -/
def windowOffset (p : Params) (a : Word) : Option Nat :=
  if p.winBase.toNat ≤ a.toNat ∧ a.toNat - p.winBase.toNat < p.winSize then some (a.toNat - p.winBase.toNat) else none

/-- The read hook, `MemRead(a, 1)` (20 R62). It changes nothing. -/
def State.memRead (s : State) (a : Word) : Byte :=
  match windowOffset s.params a with
  | some o => s.cache.shadowByte o
  | none => s.mem.read a.toNat

/-- The write hook, `MemWrite(a, 1, v)` (20 R63): in the window the cache and then the engine, else the backing array. -/
def State.memWrite (s : State) (a : Word) (v : Byte) : State :=
  match windowOffset s.params a with
  | some o => { s with cache := bridgeCache o v s.cache, engine := bridgeEngine s.params o v s.cache s.engine }
  | none => { s with mem := s.mem.write a.toNat v }

/-- `MemRead(a, 2)`: the low byte at `a`, the high byte at `a +_16 1` (00 R11). -/
def State.memRead16 (s : State) (a : Word) : Word := wordOf (s.memRead (a + 1)) (s.memRead a)

/-- The address of the stack byte that a stack pointer names, `0x0100 | SP` (10 R24, 41 R140). -/
def State.stackAddr (s : State) (sp : Byte) : Word := s.params.stackPage ||| zext16 sp

/-- `Push(b)` (41 R140). -/
def State.push (s : State) (b : Byte) : State := (s.memWrite (s.stackAddr s.sp) b).setSP (s.sp - 1)

/-- What `Pop()` returns (41 R141). -/
def State.popValue (s : State) : Byte := s.memRead (s.stackAddr (s.sp + 1))

/-- The state after `Pop()` (41 R141). -/
def State.popped (s : State) : State := s.setSP (s.sp + 1)

/-- `Push16(w)`: the high byte, then the low byte (41 R143). -/
def State.push16 (s : State) (w : Word) : State := (s.push (hiByte w)).push (loByte w)

/-- What `Pop16()` returns: the low byte first (41 R143). -/
def State.pop16Value (s : State) : Word := wordOf s.popped.popValue s.popValue

/-- The state after `Pop16()` (41 R143). -/
def State.popped16 (s : State) : State := s.popped.popped

/-- Taking a BRK: the return address and the status with bits 5 and 4 set are pushed, `I` is set, and `PC` is loaded from
BRK_VECTOR, low byte first (45 R219, 60 R374). -/
def State.enterBreak (s : State) (ret : Word) : State :=
  let t := (s.push16 ret).push (pushedStatus s.p)
  (t.setP (putI true s.p)).setPC (t.memRead16 s.params.brkVector)

/-- The return from a BRK frame: `P`, then `PC`, from the stack (44 R203, 60 R375). -/
def State.returnFromBreak (s : State) : State :=
  (s.popped.popped16.setP (pulledStatus s.popValue)).setPC s.popped.pop16Value

/-- The unsupported-opcode policy (45 R222): the event is raised, `PC` moves past the guessed length, nothing else. -/
def State.skipUnsupported (s : State) (op : Byte) (len : Nat) : State :=
  { s.raise (.unsupported op s.pc) with
    unsupCount := s.unsupCount + 1
    pc := s.pc + BitVec.ofNat 16 len
    cycles := s.params.unsupCycles }

/-- The core's `reset()` (45 R223). -/
def State.coreReset (s : State) : State :=
  { s with
    a := s.params.resetA
    x := s.params.resetX
    y := s.params.resetY
    sp := s.params.resetSP
    p := s.params.resetP
    pc := s.params.resetPC }

/-- A byte put where a fetch from `a` reads it, without the bridge's decode (for `State.withFetchWord` only). -/
def State.poke (s : State) (a : Word) (v : Byte) : State :=
  match windowOffset s.params a with
  | some o => { s with cache := s.cache.setShadow o v }
  | none => { s with mem := s.mem.write a.toNat v }

end Sys2Proof.Machine
end

