-- ==== Sys2Proof/Machine/Operands.lean ====
section
/-! DEFINITION. The addressing modes (30_encoding.md rules R102 to R114) and the page-crossing cycle (30 R101). `imp` and
`acc` have no address (30 R102, R103); an immediate operand is its own byte (30 R107); `abs` is its own word (30 R108). -/

namespace Sys2Proof.Machine

/-- `zp` (30 R104). -/
def zpAddr (b : Byte) : Word := zext16 b

/-- `zpx`: the sum wraps within the zero page (30 R105). -/
def State.zpxAddr (s : State) (b : Byte) : Word := zext16 (b + s.x)

/-- `zpy`: the sum wraps within the zero page (30 R106). -/
def State.zpyAddr (s : State) (b : Byte) : Word := zext16 (b + s.y)

/-- `abx` (30 R109). -/
def State.abxAddr (s : State) (base : Word) : Word := base + zext16 s.x

/-- `aby` (30 R110). -/
def State.abyAddr (s : State) (base : Word) : Word := base + zext16 s.y

/-- A 16-bit pointer in the zero page: its second byte wraps within the page (30 R113, R114). -/
def State.zpPointer (s : State) (z : Byte) : Word := wordOf (s.memRead (zext16 (z + 1))) (s.memRead (zext16 z))

/-- `izx`, `(zp,X)` (30 R113). -/
def State.izxAddr (s : State) (b : Byte) : Word := s.zpPointer (b + s.x)

/-- `izy`, `(zp),Y`: the pointer plus Y (30 R114). -/
def State.izyAddr (s : State) (b : Byte) : Word := s.zpPointer b + zext16 s.y

/-- The jump target of `ind`: with JMP_IND_WRAP the pointer's second byte is taken from its own page (30 R112). -/
def State.indTarget (s : State) (ptr : Word) : Word :=
  if s.params.jmpIndWrap then
    wordOf (s.memRead ((ptr &&& 0xFF00) ||| ((ptr + 1) &&& 0x00FF))) (s.memRead ptr)
  else s.memRead16 ptr

/-- Whether two addresses lie in different pages (30 R109, R110, R111, R114). -/
def pageCrossed (a b : Word) : Bool := decide (hiByte a ≠ hiByte b)

/-- The page-crossing cycle: 1 if PAGE_PENALTY and the page is crossed (30 R101). -/
def State.penalty (s : State) (a b : Word) : Nat := if s.params.pagePenalty && pageCrossed a b then 1 else 0

/-- The address after a branch, `next` (30 R111). -/
def State.branchNext (s : State) : Word := s.pc + 2

/-- The target of a branch (30 R111). -/
def State.branchTarget (s : State) (off : Byte) : Word := s.branchNext + sext16 off

end Sys2Proof.Machine
end

