-- ==== Sys2Proof/Machine/LoadStore.lean ====
section
/-! DEFINITION. The meanings of the loads, stores and register transfers (40_load_store_transfer.md). -/

namespace Sys2Proof.Machine

/-- `A <- v; SetNZ(A)` (40 R120). -/
def State.loadA (s : State) (v : Byte) : State := (s.setA v).setP (setNZ v s.p)

/-- `X <- v; SetNZ(X)` (40 R121). -/
def State.loadX (s : State) (v : Byte) : State := (s.setX v).setP (setNZ v s.p)

/-- `Y <- v; SetNZ(Y)` (40 R122). -/
def State.loadY (s : State) (v : Byte) : State := (s.setY v).setP (setNZ v s.p)

/-- LDA izx, 0xA1 (40 R120). -/
def execLdaIzx (zp : Byte) (s : State) : Result := .next ((s.retire 2 0xA1 0).loadA (s.memRead (s.izxAddr zp)))

/-- LDA zp, 0xA5 (40 R120). -/
def execLdaZp (zp : Byte) (s : State) : Result := .next ((s.retire 2 0xA5 0).loadA (s.memRead (zpAddr zp)))

/-- LDA imm, 0xA9 (40 R120). -/
def execLdaImm (m : Byte) (s : State) : Result := .next ((s.retire 2 0xA9 0).loadA m)

/-- LDA abs, 0xAD (40 R120). -/
def execLdaAbs (addr : Word) (s : State) : Result := .next ((s.retire 3 0xAD 0).loadA (s.memRead addr))

/-- LDA izy, 0xB1 (40 R120). -/
def execLdaIzy (zp : Byte) (s : State) : Result :=
  .next ((s.retire 2 0xB1 (s.penalty (s.zpPointer zp) (s.izyAddr zp))).loadA (s.memRead (s.izyAddr zp)))

/-- LDA zpx, 0xB5 (40 R120). -/
def execLdaZpx (zp : Byte) (s : State) : Result := .next ((s.retire 2 0xB5 0).loadA (s.memRead (s.zpxAddr zp)))

/-- LDA aby, 0xB9 (40 R120). -/
def execLdaAby (base : Word) (s : State) : Result :=
  .next ((s.retire 3 0xB9 (s.penalty base (s.abyAddr base))).loadA (s.memRead (s.abyAddr base)))

/-- LDA abx, 0xBD (40 R120). -/
def execLdaAbx (base : Word) (s : State) : Result :=
  .next ((s.retire 3 0xBD (s.penalty base (s.abxAddr base))).loadA (s.memRead (s.abxAddr base)))

/-- LDX imm, 0xA2 (40 R121). -/
def execLdxImm (m : Byte) (s : State) : Result := .next ((s.retire 2 0xA2 0).loadX m)

/-- LDX zp, 0xA6 (40 R121). -/
def execLdxZp (zp : Byte) (s : State) : Result := .next ((s.retire 2 0xA6 0).loadX (s.memRead (zpAddr zp)))

/-- LDX abs, 0xAE (40 R121). -/
def execLdxAbs (addr : Word) (s : State) : Result := .next ((s.retire 3 0xAE 0).loadX (s.memRead addr))

/-- LDX zpy, 0xB6 (40 R121). -/
def execLdxZpy (zp : Byte) (s : State) : Result := .next ((s.retire 2 0xB6 0).loadX (s.memRead (s.zpyAddr zp)))

/-- LDX aby, 0xBE (40 R121). -/
def execLdxAby (base : Word) (s : State) : Result :=
  .next ((s.retire 3 0xBE (s.penalty base (s.abyAddr base))).loadX (s.memRead (s.abyAddr base)))

/-- LDY imm, 0xA0 (40 R122). -/
def execLdyImm (m : Byte) (s : State) : Result := .next ((s.retire 2 0xA0 0).loadY m)

/-- LDY zp, 0xA4 (40 R122). -/
def execLdyZp (zp : Byte) (s : State) : Result := .next ((s.retire 2 0xA4 0).loadY (s.memRead (zpAddr zp)))

/-- LDY abs, 0xAC (40 R122). -/
def execLdyAbs (addr : Word) (s : State) : Result := .next ((s.retire 3 0xAC 0).loadY (s.memRead addr))

/-- LDY zpx, 0xB4 (40 R122). -/
def execLdyZpx (zp : Byte) (s : State) : Result := .next ((s.retire 2 0xB4 0).loadY (s.memRead (s.zpxAddr zp)))

/-- LDY abx, 0xBC (40 R122). -/
def execLdyAbx (base : Word) (s : State) : Result :=
  .next ((s.retire 3 0xBC (s.penalty base (s.abxAddr base))).loadY (s.memRead (s.abxAddr base)))

/-- STA izx, 0x81 (40 R123). -/
def execStaIzx (zp : Byte) (s : State) : Result := .next ((s.retire 2 0x81 0).memWrite (s.izxAddr zp) s.a)

/-- STA zp, 0x85 (40 R123). -/
def execStaZp (zp : Byte) (s : State) : Result := .next ((s.retire 2 0x85 0).memWrite (zpAddr zp) s.a)

/-- STA abs, 0x8D (40 R123). -/
def execStaAbs (addr : Word) (s : State) : Result := .next ((s.retire 3 0x8D 0).memWrite addr s.a)

/-- STA izy, 0x91 (40 R123). -/
def execStaIzy (zp : Byte) (s : State) : Result := .next ((s.retire 2 0x91 0).memWrite (s.izyAddr zp) s.a)

/-- STA zpx, 0x95 (40 R123). -/
def execStaZpx (zp : Byte) (s : State) : Result := .next ((s.retire 2 0x95 0).memWrite (s.zpxAddr zp) s.a)

/-- STA aby, 0x99 (40 R123). -/
def execStaAby (base : Word) (s : State) : Result := .next ((s.retire 3 0x99 0).memWrite (s.abyAddr base) s.a)

/-- STA abx, 0x9D (40 R123). -/
def execStaAbx (base : Word) (s : State) : Result := .next ((s.retire 3 0x9D 0).memWrite (s.abxAddr base) s.a)

/-- STX zp, 0x86 (40 R124). -/
def execStxZp (zp : Byte) (s : State) : Result := .next ((s.retire 2 0x86 0).memWrite (zpAddr zp) s.x)

/-- STX abs, 0x8E (40 R124). -/
def execStxAbs (addr : Word) (s : State) : Result := .next ((s.retire 3 0x8E 0).memWrite addr s.x)

/-- STX zpy, 0x96 (40 R124). -/
def execStxZpy (zp : Byte) (s : State) : Result := .next ((s.retire 2 0x96 0).memWrite (s.zpyAddr zp) s.x)

/-- STY zp, 0x84 (40 R125). -/
def execStyZp (zp : Byte) (s : State) : Result := .next ((s.retire 2 0x84 0).memWrite (zpAddr zp) s.y)

/-- STY abs, 0x8C (40 R125). -/
def execStyAbs (addr : Word) (s : State) : Result := .next ((s.retire 3 0x8C 0).memWrite addr s.y)

/-- STY zpx, 0x94 (40 R125). -/
def execStyZpx (zp : Byte) (s : State) : Result := .next ((s.retire 2 0x94 0).memWrite (s.zpxAddr zp) s.y)

/-- TAX imp, 0xAA (40 R126). -/
def execTax (s : State) : Result := .next ((s.retire 1 0xAA 0).loadX s.a)

/-- TAY imp, 0xA8 (40 R127). -/
def execTay (s : State) : Result := .next ((s.retire 1 0xA8 0).loadY s.a)

/-- TXA imp, 0x8A (40 R128). -/
def execTxa (s : State) : Result := .next ((s.retire 1 0x8A 0).loadA s.x)

/-- TYA imp, 0x98 (40 R129). -/
def execTya (s : State) : Result := .next ((s.retire 1 0x98 0).loadA s.y)

/-- TSX imp, 0xBA (40 R130). -/
def execTsx (s : State) : Result := .next ((s.retire 1 0xBA 0).loadX s.sp)

/-- TXS imp, 0x9A (40 R131). -/
def execTxs (s : State) : Result := .next ((s.retire 1 0x9A 0).setSP s.x)

end Sys2Proof.Machine
end

