-- ==== Sys2Proof/Machine/Arithmetic.lean ====
section
/-! DEFINITION. The meanings of the arithmetic, compare, increment and decrement instructions (42_arithmetic.md). -/

namespace Sys2Proof.Machine

/-- ADC of the operand `m` (42 R151). -/
def State.adc (s : State) (m : Byte) : State := (s.setA (adcResult s.a m (flagC s.p))).setP (adcStatus s.a m s.p)

/-- SBC of the operand `m`: ADC of its complement (42 R152). -/
def State.sbc (s : State) (m : Byte) : State := s.adc (m ^^^ 0xFF)

/-- CMP with the operand `m` (42 R153). -/
def State.compareA (s : State) (m : Byte) : State := s.setP (compareStatus s.a m s.p)

/-- CPX with the operand `m` (42 R154). -/
def State.compareX (s : State) (m : Byte) : State := s.setP (compareStatus s.x m s.p)

/-- CPY with the operand `m` (42 R155). -/
def State.compareY (s : State) (m : Byte) : State := s.setP (compareStatus s.y m s.p)

/-- INC at `ea`: one read, one write (42 R156). -/
def State.incMem (s : State) (ea : Word) : State := (s.memWrite ea (s.memRead ea + 1)).setP (setNZ (s.memRead ea + 1) s.p)

/-- DEC at `ea`: one read, one write (42 R159). -/
def State.decMem (s : State) (ea : Word) : State := (s.memWrite ea (s.memRead ea - 1)).setP (setNZ (s.memRead ea - 1) s.p)

/-- ADC izx, 0x61 (42 R151). -/
def execAdcIzx (zp : Byte) (s : State) : Result := .next ((s.retire 2 0x61 0).adc (s.memRead (s.izxAddr zp)))

/-- ADC zp, 0x65 (42 R151). -/
def execAdcZp (zp : Byte) (s : State) : Result := .next ((s.retire 2 0x65 0).adc (s.memRead (zpAddr zp)))

/-- ADC imm, 0x69 (42 R151). -/
def execAdcImm (m : Byte) (s : State) : Result := .next ((s.retire 2 0x69 0).adc m)

/-- ADC abs, 0x6D (42 R151). -/
def execAdcAbs (addr : Word) (s : State) : Result := .next ((s.retire 3 0x6D 0).adc (s.memRead addr))

/-- ADC izy, 0x71 (42 R151). -/
def execAdcIzy (zp : Byte) (s : State) : Result :=
  .next ((s.retire 2 0x71 (s.penalty (s.zpPointer zp) (s.izyAddr zp))).adc (s.memRead (s.izyAddr zp)))

/-- ADC zpx, 0x75 (42 R151). -/
def execAdcZpx (zp : Byte) (s : State) : Result := .next ((s.retire 2 0x75 0).adc (s.memRead (s.zpxAddr zp)))

/-- ADC aby, 0x79 (42 R151). -/
def execAdcAby (base : Word) (s : State) : Result :=
  .next ((s.retire 3 0x79 (s.penalty base (s.abyAddr base))).adc (s.memRead (s.abyAddr base)))

/-- ADC abx, 0x7D (42 R151). -/
def execAdcAbx (base : Word) (s : State) : Result :=
  .next ((s.retire 3 0x7D (s.penalty base (s.abxAddr base))).adc (s.memRead (s.abxAddr base)))

/-- SBC izx, 0xE1 (42 R152). -/
def execSbcIzx (zp : Byte) (s : State) : Result := .next ((s.retire 2 0xE1 0).sbc (s.memRead (s.izxAddr zp)))

/-- SBC zp, 0xE5 (42 R152). -/
def execSbcZp (zp : Byte) (s : State) : Result := .next ((s.retire 2 0xE5 0).sbc (s.memRead (zpAddr zp)))

/-- SBC imm, 0xE9 (42 R152). -/
def execSbcImm (m : Byte) (s : State) : Result := .next ((s.retire 2 0xE9 0).sbc m)

/-- SBC abs, 0xED (42 R152). -/
def execSbcAbs (addr : Word) (s : State) : Result := .next ((s.retire 3 0xED 0).sbc (s.memRead addr))

/-- SBC izy, 0xF1 (42 R152). -/
def execSbcIzy (zp : Byte) (s : State) : Result :=
  .next ((s.retire 2 0xF1 (s.penalty (s.zpPointer zp) (s.izyAddr zp))).sbc (s.memRead (s.izyAddr zp)))

/-- SBC zpx, 0xF5 (42 R152). -/
def execSbcZpx (zp : Byte) (s : State) : Result := .next ((s.retire 2 0xF5 0).sbc (s.memRead (s.zpxAddr zp)))

/-- SBC aby, 0xF9 (42 R152). -/
def execSbcAby (base : Word) (s : State) : Result :=
  .next ((s.retire 3 0xF9 (s.penalty base (s.abyAddr base))).sbc (s.memRead (s.abyAddr base)))

/-- SBC abx, 0xFD (42 R152). -/
def execSbcAbx (base : Word) (s : State) : Result :=
  .next ((s.retire 3 0xFD (s.penalty base (s.abxAddr base))).sbc (s.memRead (s.abxAddr base)))

/-- CMP izx, 0xC1 (42 R153). -/
def execCmpIzx (zp : Byte) (s : State) : Result := .next ((s.retire 2 0xC1 0).compareA (s.memRead (s.izxAddr zp)))

/-- CMP zp, 0xC5 (42 R153). -/
def execCmpZp (zp : Byte) (s : State) : Result := .next ((s.retire 2 0xC5 0).compareA (s.memRead (zpAddr zp)))

/-- CMP imm, 0xC9 (42 R153). -/
def execCmpImm (m : Byte) (s : State) : Result := .next ((s.retire 2 0xC9 0).compareA m)

/-- CMP abs, 0xCD (42 R153). -/
def execCmpAbs (addr : Word) (s : State) : Result := .next ((s.retire 3 0xCD 0).compareA (s.memRead addr))

/-- CMP izy, 0xD1 (42 R153). -/
def execCmpIzy (zp : Byte) (s : State) : Result :=
  .next ((s.retire 2 0xD1 (s.penalty (s.zpPointer zp) (s.izyAddr zp))).compareA (s.memRead (s.izyAddr zp)))

/-- CMP zpx, 0xD5 (42 R153). -/
def execCmpZpx (zp : Byte) (s : State) : Result := .next ((s.retire 2 0xD5 0).compareA (s.memRead (s.zpxAddr zp)))

/-- CMP aby, 0xD9 (42 R153). -/
def execCmpAby (base : Word) (s : State) : Result :=
  .next ((s.retire 3 0xD9 (s.penalty base (s.abyAddr base))).compareA (s.memRead (s.abyAddr base)))

/-- CMP abx, 0xDD (42 R153). -/
def execCmpAbx (base : Word) (s : State) : Result :=
  .next ((s.retire 3 0xDD (s.penalty base (s.abxAddr base))).compareA (s.memRead (s.abxAddr base)))

/-- CPX imm, 0xE0 (42 R154). -/
def execCpxImm (m : Byte) (s : State) : Result := .next ((s.retire 2 0xE0 0).compareX m)

/-- CPX zp, 0xE4 (42 R154). -/
def execCpxZp (zp : Byte) (s : State) : Result := .next ((s.retire 2 0xE4 0).compareX (s.memRead (zpAddr zp)))

/-- CPX abs, 0xEC (42 R154). -/
def execCpxAbs (addr : Word) (s : State) : Result := .next ((s.retire 3 0xEC 0).compareX (s.memRead addr))

/-- CPY imm, 0xC0 (42 R155). -/
def execCpyImm (m : Byte) (s : State) : Result := .next ((s.retire 2 0xC0 0).compareY m)

/-- CPY zp, 0xC4 (42 R155). -/
def execCpyZp (zp : Byte) (s : State) : Result := .next ((s.retire 2 0xC4 0).compareY (s.memRead (zpAddr zp)))

/-- CPY abs, 0xCC (42 R155). -/
def execCpyAbs (addr : Word) (s : State) : Result := .next ((s.retire 3 0xCC 0).compareY (s.memRead addr))

/-- INC zp, 0xE6 (42 R156). -/
def execIncZp (zp : Byte) (s : State) : Result := .next ((s.retire 2 0xE6 0).incMem (zpAddr zp))

/-- INC abs, 0xEE (42 R156). -/
def execIncAbs (addr : Word) (s : State) : Result := .next ((s.retire 3 0xEE 0).incMem addr)

/-- INC zpx, 0xF6 (42 R156). -/
def execIncZpx (zp : Byte) (s : State) : Result := .next ((s.retire 2 0xF6 0).incMem (s.zpxAddr zp))

/-- INC abx, 0xFE (42 R156). -/
def execIncAbx (base : Word) (s : State) : Result := .next ((s.retire 3 0xFE 0).incMem (s.abxAddr base))

/-- INX imp, 0xE8 (42 R157). -/
def execInx (s : State) : Result := .next ((s.retire 1 0xE8 0).loadX (s.x + 1))

/-- INY imp, 0xC8 (42 R158). -/
def execIny (s : State) : Result := .next ((s.retire 1 0xC8 0).loadY (s.y + 1))

/-- DEC zp, 0xC6 (42 R159). -/
def execDecZp (zp : Byte) (s : State) : Result := .next ((s.retire 2 0xC6 0).decMem (zpAddr zp))

/-- DEC abs, 0xCE (42 R159). -/
def execDecAbs (addr : Word) (s : State) : Result := .next ((s.retire 3 0xCE 0).decMem addr)

/-- DEC zpx, 0xD6 (42 R159). -/
def execDecZpx (zp : Byte) (s : State) : Result := .next ((s.retire 2 0xD6 0).decMem (s.zpxAddr zp))

/-- DEC abx, 0xDE (42 R159). -/
def execDecAbx (base : Word) (s : State) : Result := .next ((s.retire 3 0xDE 0).decMem (s.abxAddr base))

/-- DEX imp, 0xCA (42 R160). -/
def execDex (s : State) : Result := .next ((s.retire 1 0xCA 0).loadX (s.x - 1))

/-- DEY imp, 0x88 (42 R161). -/
def execDey (s : State) : Result := .next ((s.retire 1 0x88 0).loadY (s.y - 1))

end Sys2Proof.Machine
end

