-- ==== Sys2Proof/Machine/Control.lean ====
section
/-! DEFINITION. The meanings of the branches, jumps, calls and returns (44_control_transfer.md). -/

namespace Sys2Proof.Machine

/-- The cycles that a branch adds to its base count: none if not taken, 1 if taken, 2 if taken to another page (44 R190). -/
def State.branchCycles (s : State) (taken : Bool) (off : Byte) : Nat :=
  if taken then 1 + s.penalty s.branchNext (s.branchTarget off) else 0

/-- The common rule of the eight branches (44 R190). -/
def State.branch (s : State) (op : Byte) (taken : Bool) (off : Byte) : State :=
  (s.retire 2 op (s.branchCycles taken off)).setPC (if taken then s.branchTarget off else s.branchNext)

/-- BCC rel, 0x90 (44 R191). -/
def execBcc (off : Byte) (s : State) : Result := .next (s.branch 0x90 (!flagC s.p) off)

/-- BCS rel, 0xB0 (44 R192). -/
def execBcs (off : Byte) (s : State) : Result := .next (s.branch 0xB0 (flagC s.p) off)

/-- BEQ rel, 0xF0 (44 R193). -/
def execBeq (off : Byte) (s : State) : Result := .next (s.branch 0xF0 (flagZ s.p) off)

/-- BMI rel, 0x30 (44 R194). -/
def execBmi (off : Byte) (s : State) : Result := .next (s.branch 0x30 (flagN s.p) off)

/-- BNE rel, 0xD0 (44 R195). -/
def execBne (off : Byte) (s : State) : Result := .next (s.branch 0xD0 (!flagZ s.p) off)

/-- BPL rel, 0x10 (44 R196). -/
def execBpl (off : Byte) (s : State) : Result := .next (s.branch 0x10 (!flagN s.p) off)

/-- BVC rel, 0x50 (44 R197). -/
def execBvc (off : Byte) (s : State) : Result := .next (s.branch 0x50 (!flagV s.p) off)

/-- BVS rel, 0x70 (44 R198). -/
def execBvs (off : Byte) (s : State) : Result := .next (s.branch 0x70 (flagV s.p) off)

/-- JMP abs, 0x4C (44 R199). -/
def execJmpAbs (addr : Word) (s : State) : Result := .next ((s.retire 3 0x4C 0).setPC addr)

/-- JMP ind, 0x6C (44 R199). -/
def execJmpInd (ptr : Word) (s : State) : Result := .next ((s.retire 3 0x6C 0).setPC (s.indTarget ptr))

/-- JSR abs, 0x20 (44 R201). -/
def execJsr (addr : Word) (s : State) : Result := .next (((s.retire 3 0x20 0).push16 (s.pc + 2)).setPC addr)

/-- RTS imp, 0x60 (44 R202). -/
def execRts (s : State) : Result := .next ((s.retire 1 0x60 0).popped16.setPC (s.pop16Value + 1))

/-- RTI imp, 0x40 (44 R203). -/
def execRti (s : State) : Result := .next (s.retire 1 0x40 0).returnFromBreak

end Sys2Proof.Machine
end

