-- ==== Sys2Proof/Machine/Logic.lean ====
section
/-! DEFINITION. The meanings of the logic and bit-test instructions (43_logic_shift.md). -/

namespace Sys2Proof.Machine

/-- AND with the operand `m` (43 R170). -/
def State.andA (s : State) (m : Byte) : State := s.loadA (s.a &&& m)

/-- ORA with the operand `m` (43 R171). -/
def State.oraA (s : State) (m : Byte) : State := s.loadA (s.a ||| m)

/-- EOR with the operand `m` (43 R172). -/
def State.eorA (s : State) (m : Byte) : State := s.loadA (s.a ^^^ m)

/-- BIT with the operand `m` (43 R173). -/
def State.bitA (s : State) (m : Byte) : State := s.setP (bitStatus s.a m s.p)

/-- AND izx, 0x21 (43 R170). -/
def execAndIzx (zp : Byte) (s : State) : Result := .next ((s.retire 2 0x21 0).andA (s.memRead (s.izxAddr zp)))

/-- AND zp, 0x25 (43 R170). -/
def execAndZp (zp : Byte) (s : State) : Result := .next ((s.retire 2 0x25 0).andA (s.memRead (zpAddr zp)))

/-- AND imm, 0x29 (43 R170). -/
def execAndImm (m : Byte) (s : State) : Result := .next ((s.retire 2 0x29 0).andA m)

/-- AND abs, 0x2D (43 R170). -/
def execAndAbs (addr : Word) (s : State) : Result := .next ((s.retire 3 0x2D 0).andA (s.memRead addr))

/-- AND izy, 0x31 (43 R170). -/
def execAndIzy (zp : Byte) (s : State) : Result :=
  .next ((s.retire 2 0x31 (s.penalty (s.zpPointer zp) (s.izyAddr zp))).andA (s.memRead (s.izyAddr zp)))

/-- AND zpx, 0x35 (43 R170). -/
def execAndZpx (zp : Byte) (s : State) : Result := .next ((s.retire 2 0x35 0).andA (s.memRead (s.zpxAddr zp)))

/-- AND aby, 0x39 (43 R170). -/
def execAndAby (base : Word) (s : State) : Result :=
  .next ((s.retire 3 0x39 (s.penalty base (s.abyAddr base))).andA (s.memRead (s.abyAddr base)))

/-- AND abx, 0x3D (43 R170). -/
def execAndAbx (base : Word) (s : State) : Result :=
  .next ((s.retire 3 0x3D (s.penalty base (s.abxAddr base))).andA (s.memRead (s.abxAddr base)))

/-- ORA izx, 0x01 (43 R171). -/
def execOraIzx (zp : Byte) (s : State) : Result := .next ((s.retire 2 0x01 0).oraA (s.memRead (s.izxAddr zp)))

/-- ORA zp, 0x05 (43 R171). -/
def execOraZp (zp : Byte) (s : State) : Result := .next ((s.retire 2 0x05 0).oraA (s.memRead (zpAddr zp)))

/-- ORA imm, 0x09 (43 R171). -/
def execOraImm (m : Byte) (s : State) : Result := .next ((s.retire 2 0x09 0).oraA m)

/-- ORA abs, 0x0D (43 R171). -/
def execOraAbs (addr : Word) (s : State) : Result := .next ((s.retire 3 0x0D 0).oraA (s.memRead addr))

/-- ORA izy, 0x11 (43 R171). -/
def execOraIzy (zp : Byte) (s : State) : Result :=
  .next ((s.retire 2 0x11 (s.penalty (s.zpPointer zp) (s.izyAddr zp))).oraA (s.memRead (s.izyAddr zp)))

/-- ORA zpx, 0x15 (43 R171). -/
def execOraZpx (zp : Byte) (s : State) : Result := .next ((s.retire 2 0x15 0).oraA (s.memRead (s.zpxAddr zp)))

/-- ORA aby, 0x19 (43 R171). -/
def execOraAby (base : Word) (s : State) : Result :=
  .next ((s.retire 3 0x19 (s.penalty base (s.abyAddr base))).oraA (s.memRead (s.abyAddr base)))

/-- ORA abx, 0x1D (43 R171). -/
def execOraAbx (base : Word) (s : State) : Result :=
  .next ((s.retire 3 0x1D (s.penalty base (s.abxAddr base))).oraA (s.memRead (s.abxAddr base)))

/-- EOR izx, 0x41 (43 R172). -/
def execEorIzx (zp : Byte) (s : State) : Result := .next ((s.retire 2 0x41 0).eorA (s.memRead (s.izxAddr zp)))

/-- EOR zp, 0x45 (43 R172). -/
def execEorZp (zp : Byte) (s : State) : Result := .next ((s.retire 2 0x45 0).eorA (s.memRead (zpAddr zp)))

/-- EOR imm, 0x49 (43 R172). -/
def execEorImm (m : Byte) (s : State) : Result := .next ((s.retire 2 0x49 0).eorA m)

/-- EOR abs, 0x4D (43 R172). -/
def execEorAbs (addr : Word) (s : State) : Result := .next ((s.retire 3 0x4D 0).eorA (s.memRead addr))

/-- EOR izy, 0x51 (43 R172). -/
def execEorIzy (zp : Byte) (s : State) : Result :=
  .next ((s.retire 2 0x51 (s.penalty (s.zpPointer zp) (s.izyAddr zp))).eorA (s.memRead (s.izyAddr zp)))

/-- EOR zpx, 0x55 (43 R172). -/
def execEorZpx (zp : Byte) (s : State) : Result := .next ((s.retire 2 0x55 0).eorA (s.memRead (s.zpxAddr zp)))

/-- EOR aby, 0x59 (43 R172). -/
def execEorAby (base : Word) (s : State) : Result :=
  .next ((s.retire 3 0x59 (s.penalty base (s.abyAddr base))).eorA (s.memRead (s.abyAddr base)))

/-- EOR abx, 0x5D (43 R172). -/
def execEorAbx (base : Word) (s : State) : Result :=
  .next ((s.retire 3 0x5D (s.penalty base (s.abxAddr base))).eorA (s.memRead (s.abxAddr base)))

/-- BIT zp, 0x24 (43 R173). -/
def execBitZp (zp : Byte) (s : State) : Result := .next ((s.retire 2 0x24 0).bitA (s.memRead (zpAddr zp)))

/-- BIT abs, 0x2C (43 R173). -/
def execBitAbs (addr : Word) (s : State) : Result := .next ((s.retire 3 0x2C 0).bitA (s.memRead addr))

end Sys2Proof.Machine
end

