-- ==== Sys2Proof/Machine/Shift.lean ====
section
/-! DEFINITION. The meanings of the shifts and rotates (43_logic_shift.md). -/

namespace Sys2Proof.Machine

/-- ASL of A (43 R174). -/
def State.aslA (s : State) : State := (s.setA (aslResult s.a)).setP (leftStatus s.a (aslResult s.a) s.p)

/-- LSR of A (43 R175). -/
def State.lsrA (s : State) : State := (s.setA (lsrResult s.a)).setP (rightStatus s.a (lsrResult s.a) s.p)

/-- ROL of A (43 R176). -/
def State.rolA (s : State) : State :=
  (s.setA (rolResult (flagC s.p) s.a)).setP (leftStatus s.a (rolResult (flagC s.p) s.a) s.p)

/-- ROR of A (43 R177). -/
def State.rorA (s : State) : State :=
  (s.setA (rorResult (flagC s.p) s.a)).setP (rightStatus s.a (rorResult (flagC s.p) s.a) s.p)

/-- ASL at `ea` (43 R174). -/
def State.aslMem (s : State) (ea : Word) : State :=
  (s.memWrite ea (aslResult (s.memRead ea))).setP (leftStatus (s.memRead ea) (aslResult (s.memRead ea)) s.p)

/-- LSR at `ea` (43 R175). -/
def State.lsrMem (s : State) (ea : Word) : State :=
  (s.memWrite ea (lsrResult (s.memRead ea))).setP (rightStatus (s.memRead ea) (lsrResult (s.memRead ea)) s.p)

/-- ROL at `ea` (43 R176). -/
def State.rolMem (s : State) (ea : Word) : State :=
  (s.memWrite ea (rolResult (flagC s.p) (s.memRead ea))).setP
    (leftStatus (s.memRead ea) (rolResult (flagC s.p) (s.memRead ea)) s.p)

/-- ROR at `ea` (43 R177). -/
def State.rorMem (s : State) (ea : Word) : State :=
  (s.memWrite ea (rorResult (flagC s.p) (s.memRead ea))).setP
    (rightStatus (s.memRead ea) (rorResult (flagC s.p) (s.memRead ea)) s.p)

/-- ASL zp, 0x06 (43 R174). -/
def execAslZp (zp : Byte) (s : State) : Result := .next ((s.retire 2 0x06 0).aslMem (zpAddr zp))

/-- ASL acc, 0x0A (43 R174). -/
def execAslAcc (s : State) : Result := .next (s.retire 1 0x0A 0).aslA

/-- ASL abs, 0x0E (43 R174). -/
def execAslAbs (addr : Word) (s : State) : Result := .next ((s.retire 3 0x0E 0).aslMem addr)

/-- ASL zpx, 0x16 (43 R174). -/
def execAslZpx (zp : Byte) (s : State) : Result := .next ((s.retire 2 0x16 0).aslMem (s.zpxAddr zp))

/-- ASL abx, 0x1E (43 R174). -/
def execAslAbx (base : Word) (s : State) : Result := .next ((s.retire 3 0x1E 0).aslMem (s.abxAddr base))

/-- LSR zp, 0x46 (43 R175). -/
def execLsrZp (zp : Byte) (s : State) : Result := .next ((s.retire 2 0x46 0).lsrMem (zpAddr zp))

/-- LSR acc, 0x4A (43 R175). -/
def execLsrAcc (s : State) : Result := .next (s.retire 1 0x4A 0).lsrA

/-- LSR abs, 0x4E (43 R175). -/
def execLsrAbs (addr : Word) (s : State) : Result := .next ((s.retire 3 0x4E 0).lsrMem addr)

/-- LSR zpx, 0x56 (43 R175). -/
def execLsrZpx (zp : Byte) (s : State) : Result := .next ((s.retire 2 0x56 0).lsrMem (s.zpxAddr zp))

/-- LSR abx, 0x5E (43 R175). -/
def execLsrAbx (base : Word) (s : State) : Result := .next ((s.retire 3 0x5E 0).lsrMem (s.abxAddr base))

/-- ROL zp, 0x26 (43 R176). -/
def execRolZp (zp : Byte) (s : State) : Result := .next ((s.retire 2 0x26 0).rolMem (zpAddr zp))

/-- ROL acc, 0x2A (43 R176). -/
def execRolAcc (s : State) : Result := .next (s.retire 1 0x2A 0).rolA

/-- ROL abs, 0x2E (43 R176). -/
def execRolAbs (addr : Word) (s : State) : Result := .next ((s.retire 3 0x2E 0).rolMem addr)

/-- ROL zpx, 0x36 (43 R176). -/
def execRolZpx (zp : Byte) (s : State) : Result := .next ((s.retire 2 0x36 0).rolMem (s.zpxAddr zp))

/-- ROL abx, 0x3E (43 R176). -/
def execRolAbx (base : Word) (s : State) : Result := .next ((s.retire 3 0x3E 0).rolMem (s.abxAddr base))

/-- ROR zp, 0x66 (43 R177). -/
def execRorZp (zp : Byte) (s : State) : Result := .next ((s.retire 2 0x66 0).rorMem (zpAddr zp))

/-- ROR acc, 0x6A (43 R177). -/
def execRorAcc (s : State) : Result := .next (s.retire 1 0x6A 0).rorA

/-- ROR abs, 0x6E (43 R177). -/
def execRorAbs (addr : Word) (s : State) : Result := .next ((s.retire 3 0x6E 0).rorMem addr)

/-- ROR zpx, 0x76 (43 R177). -/
def execRorZpx (zp : Byte) (s : State) : Result := .next ((s.retire 2 0x76 0).rorMem (s.zpxAddr zp))

/-- ROR abx, 0x7E (43 R177). -/
def execRorAbx (base : Word) (s : State) : Result := .next ((s.retire 3 0x7E 0).rorMem (s.abxAddr base))

end Sys2Proof.Machine
end

