-- ==== Sys2Proof/Machine/Stack.lean ====
section
/-! DEFINITION. The meanings of the stack instructions (41_stack.md). -/

namespace Sys2Proof.Machine

/-- PHA imp, 0x48 (41 R144). -/
def execPha (s : State) : Result := .next ((s.retire 1 0x48 0).push s.a)

/-- PHP imp, 0x08 (41 R145). -/
def execPhp (s : State) : Result := .next ((s.retire 1 0x08 0).push (pushedStatus s.p))

/-- PLA imp, 0x68 (41 R146). -/
def execPla (s : State) : Result := .next ((s.retire 1 0x68 0).popped.loadA s.popValue)

/-- PLP imp, 0x28 (41 R147). -/
def execPlp (s : State) : Result := .next ((s.retire 1 0x28 0).popped.setP (pulledStatus s.popValue))

end Sys2Proof.Machine
end

