-- ==== Sys2Proof/Machine/System.lean ====
section
/-! DEFINITION. The meanings of the flag instructions, NOP and BRK (45_flags_system.md). -/

namespace Sys2Proof.Machine

/-- CLC imp, 0x18 (45 R210). -/
def execClc (s : State) : Result := .next ((s.retire 1 0x18 0).setP (putC false s.p))

/-- SEC imp, 0x38 (45 R211). -/
def execSec (s : State) : Result := .next ((s.retire 1 0x38 0).setP (putC true s.p))

/-- CLI imp, 0x58 (45 R212). -/
def execCli (s : State) : Result := .next ((s.retire 1 0x58 0).setP (putI false s.p))

/-- SEI imp, 0x78 (45 R213). -/
def execSei (s : State) : Result := .next ((s.retire 1 0x78 0).setP (putI true s.p))

/-- CLV imp, 0xB8 (45 R214). -/
def execClv (s : State) : Result := .next ((s.retire 1 0xB8 0).setP (putV false s.p))

/-- CLD imp, 0xD8 (45 R215). -/
def execCld (s : State) : Result := .next ((s.retire 1 0xD8 0).setP (putD false s.p))

/-- SED imp, 0xF8 (45 R216). -/
def execSed (s : State) : Result := .next ((s.retire 1 0xF8 0).setP (putD true s.p))

/-- NOP imp, 0xEA (45 R217). -/
def execNop (s : State) : Result := .next (s.retire 1 0xEA 0)

/-- BRK imp, 0x00 (45 R219). -/
def execBrk (s : State) : Result := .next ((s.retire 1 0x00 0).enterBreak (s.pc + 2))

end Sys2Proof.Machine
end

