-- ==== Sys2Proof/Machine/Unsupported.lean ====
section
/-! DEFINITION. The meanings of the 105 unsupported opcodes (45 R222): the event is raised, PC moves past the guessed length. -/

namespace Sys2Proof.Machine

/-- unsupported opcode, 0x02 (45 R222). -/
def execUnsup02 (s : State) : Result := .next (s.skipUnsupported 0x02 (lengthIn s.params.unsupLen 0x02))

/-- unsupported opcode, 0x03 (45 R222). -/
def execUnsup03 (s : State) : Result := .next (s.skipUnsupported 0x03 (lengthIn s.params.unsupLen 0x03))

/-- unsupported opcode, 0x04 (45 R222). -/
def execUnsup04 (s : State) : Result := .next (s.skipUnsupported 0x04 (lengthIn s.params.unsupLen 0x04))

/-- unsupported opcode, 0x07 (45 R222). -/
def execUnsup07 (s : State) : Result := .next (s.skipUnsupported 0x07 (lengthIn s.params.unsupLen 0x07))

/-- unsupported opcode, 0x0B (45 R222). -/
def execUnsup0B (s : State) : Result := .next (s.skipUnsupported 0x0B (lengthIn s.params.unsupLen 0x0B))

/-- unsupported opcode, 0x0C (45 R222). -/
def execUnsup0C (s : State) : Result := .next (s.skipUnsupported 0x0C (lengthIn s.params.unsupLen 0x0C))

/-- unsupported opcode, 0x0F (45 R222). -/
def execUnsup0F (s : State) : Result := .next (s.skipUnsupported 0x0F (lengthIn s.params.unsupLen 0x0F))

/-- unsupported opcode, 0x12 (45 R222). -/
def execUnsup12 (s : State) : Result := .next (s.skipUnsupported 0x12 (lengthIn s.params.unsupLen 0x12))

/-- unsupported opcode, 0x13 (45 R222). -/
def execUnsup13 (s : State) : Result := .next (s.skipUnsupported 0x13 (lengthIn s.params.unsupLen 0x13))

/-- unsupported opcode, 0x14 (45 R222). -/
def execUnsup14 (s : State) : Result := .next (s.skipUnsupported 0x14 (lengthIn s.params.unsupLen 0x14))

/-- unsupported opcode, 0x17 (45 R222). -/
def execUnsup17 (s : State) : Result := .next (s.skipUnsupported 0x17 (lengthIn s.params.unsupLen 0x17))

/-- unsupported opcode, 0x1A (45 R222). -/
def execUnsup1A (s : State) : Result := .next (s.skipUnsupported 0x1A (lengthIn s.params.unsupLen 0x1A))

/-- unsupported opcode, 0x1B (45 R222). -/
def execUnsup1B (s : State) : Result := .next (s.skipUnsupported 0x1B (lengthIn s.params.unsupLen 0x1B))

/-- unsupported opcode, 0x1C (45 R222). -/
def execUnsup1C (s : State) : Result := .next (s.skipUnsupported 0x1C (lengthIn s.params.unsupLen 0x1C))

/-- unsupported opcode, 0x1F (45 R222). -/
def execUnsup1F (s : State) : Result := .next (s.skipUnsupported 0x1F (lengthIn s.params.unsupLen 0x1F))

/-- unsupported opcode, 0x22 (45 R222). -/
def execUnsup22 (s : State) : Result := .next (s.skipUnsupported 0x22 (lengthIn s.params.unsupLen 0x22))

/-- unsupported opcode, 0x23 (45 R222). -/
def execUnsup23 (s : State) : Result := .next (s.skipUnsupported 0x23 (lengthIn s.params.unsupLen 0x23))

/-- unsupported opcode, 0x27 (45 R222). -/
def execUnsup27 (s : State) : Result := .next (s.skipUnsupported 0x27 (lengthIn s.params.unsupLen 0x27))

/-- unsupported opcode, 0x2B (45 R222). -/
def execUnsup2B (s : State) : Result := .next (s.skipUnsupported 0x2B (lengthIn s.params.unsupLen 0x2B))

/-- unsupported opcode, 0x2F (45 R222). -/
def execUnsup2F (s : State) : Result := .next (s.skipUnsupported 0x2F (lengthIn s.params.unsupLen 0x2F))

/-- unsupported opcode, 0x32 (45 R222). -/
def execUnsup32 (s : State) : Result := .next (s.skipUnsupported 0x32 (lengthIn s.params.unsupLen 0x32))

/-- unsupported opcode, 0x33 (45 R222). -/
def execUnsup33 (s : State) : Result := .next (s.skipUnsupported 0x33 (lengthIn s.params.unsupLen 0x33))

/-- unsupported opcode, 0x34 (45 R222). -/
def execUnsup34 (s : State) : Result := .next (s.skipUnsupported 0x34 (lengthIn s.params.unsupLen 0x34))

/-- unsupported opcode, 0x37 (45 R222). -/
def execUnsup37 (s : State) : Result := .next (s.skipUnsupported 0x37 (lengthIn s.params.unsupLen 0x37))

/-- unsupported opcode, 0x3A (45 R222). -/
def execUnsup3A (s : State) : Result := .next (s.skipUnsupported 0x3A (lengthIn s.params.unsupLen 0x3A))

/-- unsupported opcode, 0x3B (45 R222). -/
def execUnsup3B (s : State) : Result := .next (s.skipUnsupported 0x3B (lengthIn s.params.unsupLen 0x3B))

/-- unsupported opcode, 0x3C (45 R222). -/
def execUnsup3C (s : State) : Result := .next (s.skipUnsupported 0x3C (lengthIn s.params.unsupLen 0x3C))

/-- unsupported opcode, 0x3F (45 R222). -/
def execUnsup3F (s : State) : Result := .next (s.skipUnsupported 0x3F (lengthIn s.params.unsupLen 0x3F))

/-- unsupported opcode, 0x42 (45 R222). -/
def execUnsup42 (s : State) : Result := .next (s.skipUnsupported 0x42 (lengthIn s.params.unsupLen 0x42))

/-- unsupported opcode, 0x43 (45 R222). -/
def execUnsup43 (s : State) : Result := .next (s.skipUnsupported 0x43 (lengthIn s.params.unsupLen 0x43))

/-- unsupported opcode, 0x44 (45 R222). -/
def execUnsup44 (s : State) : Result := .next (s.skipUnsupported 0x44 (lengthIn s.params.unsupLen 0x44))

/-- unsupported opcode, 0x47 (45 R222). -/
def execUnsup47 (s : State) : Result := .next (s.skipUnsupported 0x47 (lengthIn s.params.unsupLen 0x47))

/-- unsupported opcode, 0x4B (45 R222). -/
def execUnsup4B (s : State) : Result := .next (s.skipUnsupported 0x4B (lengthIn s.params.unsupLen 0x4B))

/-- unsupported opcode, 0x4F (45 R222). -/
def execUnsup4F (s : State) : Result := .next (s.skipUnsupported 0x4F (lengthIn s.params.unsupLen 0x4F))

/-- unsupported opcode, 0x52 (45 R222). -/
def execUnsup52 (s : State) : Result := .next (s.skipUnsupported 0x52 (lengthIn s.params.unsupLen 0x52))

/-- unsupported opcode, 0x53 (45 R222). -/
def execUnsup53 (s : State) : Result := .next (s.skipUnsupported 0x53 (lengthIn s.params.unsupLen 0x53))

/-- unsupported opcode, 0x54 (45 R222). -/
def execUnsup54 (s : State) : Result := .next (s.skipUnsupported 0x54 (lengthIn s.params.unsupLen 0x54))

/-- unsupported opcode, 0x57 (45 R222). -/
def execUnsup57 (s : State) : Result := .next (s.skipUnsupported 0x57 (lengthIn s.params.unsupLen 0x57))

/-- unsupported opcode, 0x5A (45 R222). -/
def execUnsup5A (s : State) : Result := .next (s.skipUnsupported 0x5A (lengthIn s.params.unsupLen 0x5A))

/-- unsupported opcode, 0x5B (45 R222). -/
def execUnsup5B (s : State) : Result := .next (s.skipUnsupported 0x5B (lengthIn s.params.unsupLen 0x5B))

/-- unsupported opcode, 0x5C (45 R222). -/
def execUnsup5C (s : State) : Result := .next (s.skipUnsupported 0x5C (lengthIn s.params.unsupLen 0x5C))

/-- unsupported opcode, 0x5F (45 R222). -/
def execUnsup5F (s : State) : Result := .next (s.skipUnsupported 0x5F (lengthIn s.params.unsupLen 0x5F))

/-- unsupported opcode, 0x62 (45 R222). -/
def execUnsup62 (s : State) : Result := .next (s.skipUnsupported 0x62 (lengthIn s.params.unsupLen 0x62))

/-- unsupported opcode, 0x63 (45 R222). -/
def execUnsup63 (s : State) : Result := .next (s.skipUnsupported 0x63 (lengthIn s.params.unsupLen 0x63))

/-- unsupported opcode, 0x64 (45 R222). -/
def execUnsup64 (s : State) : Result := .next (s.skipUnsupported 0x64 (lengthIn s.params.unsupLen 0x64))

/-- unsupported opcode, 0x67 (45 R222). -/
def execUnsup67 (s : State) : Result := .next (s.skipUnsupported 0x67 (lengthIn s.params.unsupLen 0x67))

/-- unsupported opcode, 0x6B (45 R222). -/
def execUnsup6B (s : State) : Result := .next (s.skipUnsupported 0x6B (lengthIn s.params.unsupLen 0x6B))

/-- unsupported opcode, 0x6F (45 R222). -/
def execUnsup6F (s : State) : Result := .next (s.skipUnsupported 0x6F (lengthIn s.params.unsupLen 0x6F))

/-- unsupported opcode, 0x72 (45 R222). -/
def execUnsup72 (s : State) : Result := .next (s.skipUnsupported 0x72 (lengthIn s.params.unsupLen 0x72))

/-- unsupported opcode, 0x73 (45 R222). -/
def execUnsup73 (s : State) : Result := .next (s.skipUnsupported 0x73 (lengthIn s.params.unsupLen 0x73))

/-- unsupported opcode, 0x74 (45 R222). -/
def execUnsup74 (s : State) : Result := .next (s.skipUnsupported 0x74 (lengthIn s.params.unsupLen 0x74))

/-- unsupported opcode, 0x77 (45 R222). -/
def execUnsup77 (s : State) : Result := .next (s.skipUnsupported 0x77 (lengthIn s.params.unsupLen 0x77))

/-- unsupported opcode, 0x7A (45 R222). -/
def execUnsup7A (s : State) : Result := .next (s.skipUnsupported 0x7A (lengthIn s.params.unsupLen 0x7A))

/-- unsupported opcode, 0x7B (45 R222). -/
def execUnsup7B (s : State) : Result := .next (s.skipUnsupported 0x7B (lengthIn s.params.unsupLen 0x7B))

/-- unsupported opcode, 0x7C (45 R222). -/
def execUnsup7C (s : State) : Result := .next (s.skipUnsupported 0x7C (lengthIn s.params.unsupLen 0x7C))

/-- unsupported opcode, 0x7F (45 R222). -/
def execUnsup7F (s : State) : Result := .next (s.skipUnsupported 0x7F (lengthIn s.params.unsupLen 0x7F))

/-- unsupported opcode, 0x80 (45 R222). -/
def execUnsup80 (s : State) : Result := .next (s.skipUnsupported 0x80 (lengthIn s.params.unsupLen 0x80))

/-- unsupported opcode, 0x82 (45 R222). -/
def execUnsup82 (s : State) : Result := .next (s.skipUnsupported 0x82 (lengthIn s.params.unsupLen 0x82))

/-- unsupported opcode, 0x83 (45 R222). -/
def execUnsup83 (s : State) : Result := .next (s.skipUnsupported 0x83 (lengthIn s.params.unsupLen 0x83))

/-- unsupported opcode, 0x87 (45 R222). -/
def execUnsup87 (s : State) : Result := .next (s.skipUnsupported 0x87 (lengthIn s.params.unsupLen 0x87))

/-- unsupported opcode, 0x89 (45 R222). -/
def execUnsup89 (s : State) : Result := .next (s.skipUnsupported 0x89 (lengthIn s.params.unsupLen 0x89))

/-- unsupported opcode, 0x8B (45 R222). -/
def execUnsup8B (s : State) : Result := .next (s.skipUnsupported 0x8B (lengthIn s.params.unsupLen 0x8B))

/-- unsupported opcode, 0x8F (45 R222). -/
def execUnsup8F (s : State) : Result := .next (s.skipUnsupported 0x8F (lengthIn s.params.unsupLen 0x8F))

/-- unsupported opcode, 0x92 (45 R222). -/
def execUnsup92 (s : State) : Result := .next (s.skipUnsupported 0x92 (lengthIn s.params.unsupLen 0x92))

/-- unsupported opcode, 0x93 (45 R222). -/
def execUnsup93 (s : State) : Result := .next (s.skipUnsupported 0x93 (lengthIn s.params.unsupLen 0x93))

/-- unsupported opcode, 0x97 (45 R222). -/
def execUnsup97 (s : State) : Result := .next (s.skipUnsupported 0x97 (lengthIn s.params.unsupLen 0x97))

/-- unsupported opcode, 0x9B (45 R222). -/
def execUnsup9B (s : State) : Result := .next (s.skipUnsupported 0x9B (lengthIn s.params.unsupLen 0x9B))

/-- unsupported opcode, 0x9C (45 R222). -/
def execUnsup9C (s : State) : Result := .next (s.skipUnsupported 0x9C (lengthIn s.params.unsupLen 0x9C))

/-- unsupported opcode, 0x9E (45 R222). -/
def execUnsup9E (s : State) : Result := .next (s.skipUnsupported 0x9E (lengthIn s.params.unsupLen 0x9E))

/-- unsupported opcode, 0x9F (45 R222). -/
def execUnsup9F (s : State) : Result := .next (s.skipUnsupported 0x9F (lengthIn s.params.unsupLen 0x9F))

/-- unsupported opcode, 0xA3 (45 R222). -/
def execUnsupA3 (s : State) : Result := .next (s.skipUnsupported 0xA3 (lengthIn s.params.unsupLen 0xA3))

/-- unsupported opcode, 0xA7 (45 R222). -/
def execUnsupA7 (s : State) : Result := .next (s.skipUnsupported 0xA7 (lengthIn s.params.unsupLen 0xA7))

/-- unsupported opcode, 0xAB (45 R222). -/
def execUnsupAB (s : State) : Result := .next (s.skipUnsupported 0xAB (lengthIn s.params.unsupLen 0xAB))

/-- unsupported opcode, 0xAF (45 R222). -/
def execUnsupAF (s : State) : Result := .next (s.skipUnsupported 0xAF (lengthIn s.params.unsupLen 0xAF))

/-- unsupported opcode, 0xB2 (45 R222). -/
def execUnsupB2 (s : State) : Result := .next (s.skipUnsupported 0xB2 (lengthIn s.params.unsupLen 0xB2))

/-- unsupported opcode, 0xB3 (45 R222). -/
def execUnsupB3 (s : State) : Result := .next (s.skipUnsupported 0xB3 (lengthIn s.params.unsupLen 0xB3))

/-- unsupported opcode, 0xB7 (45 R222). -/
def execUnsupB7 (s : State) : Result := .next (s.skipUnsupported 0xB7 (lengthIn s.params.unsupLen 0xB7))

/-- unsupported opcode, 0xBB (45 R222). -/
def execUnsupBB (s : State) : Result := .next (s.skipUnsupported 0xBB (lengthIn s.params.unsupLen 0xBB))

/-- unsupported opcode, 0xBF (45 R222). -/
def execUnsupBF (s : State) : Result := .next (s.skipUnsupported 0xBF (lengthIn s.params.unsupLen 0xBF))

/-- unsupported opcode, 0xC2 (45 R222). -/
def execUnsupC2 (s : State) : Result := .next (s.skipUnsupported 0xC2 (lengthIn s.params.unsupLen 0xC2))

/-- unsupported opcode, 0xC3 (45 R222). -/
def execUnsupC3 (s : State) : Result := .next (s.skipUnsupported 0xC3 (lengthIn s.params.unsupLen 0xC3))

/-- unsupported opcode, 0xC7 (45 R222). -/
def execUnsupC7 (s : State) : Result := .next (s.skipUnsupported 0xC7 (lengthIn s.params.unsupLen 0xC7))

/-- unsupported opcode, 0xCB (45 R222). -/
def execUnsupCB (s : State) : Result := .next (s.skipUnsupported 0xCB (lengthIn s.params.unsupLen 0xCB))

/-- unsupported opcode, 0xCF (45 R222). -/
def execUnsupCF (s : State) : Result := .next (s.skipUnsupported 0xCF (lengthIn s.params.unsupLen 0xCF))

/-- unsupported opcode, 0xD2 (45 R222). -/
def execUnsupD2 (s : State) : Result := .next (s.skipUnsupported 0xD2 (lengthIn s.params.unsupLen 0xD2))

/-- unsupported opcode, 0xD3 (45 R222). -/
def execUnsupD3 (s : State) : Result := .next (s.skipUnsupported 0xD3 (lengthIn s.params.unsupLen 0xD3))

/-- unsupported opcode, 0xD4 (45 R222). -/
def execUnsupD4 (s : State) : Result := .next (s.skipUnsupported 0xD4 (lengthIn s.params.unsupLen 0xD4))

/-- unsupported opcode, 0xD7 (45 R222). -/
def execUnsupD7 (s : State) : Result := .next (s.skipUnsupported 0xD7 (lengthIn s.params.unsupLen 0xD7))

/-- unsupported opcode, 0xDA (45 R222). -/
def execUnsupDA (s : State) : Result := .next (s.skipUnsupported 0xDA (lengthIn s.params.unsupLen 0xDA))

/-- unsupported opcode, 0xDB (45 R222). -/
def execUnsupDB (s : State) : Result := .next (s.skipUnsupported 0xDB (lengthIn s.params.unsupLen 0xDB))

/-- unsupported opcode, 0xDC (45 R222). -/
def execUnsupDC (s : State) : Result := .next (s.skipUnsupported 0xDC (lengthIn s.params.unsupLen 0xDC))

/-- unsupported opcode, 0xDF (45 R222). -/
def execUnsupDF (s : State) : Result := .next (s.skipUnsupported 0xDF (lengthIn s.params.unsupLen 0xDF))

/-- unsupported opcode, 0xE2 (45 R222). -/
def execUnsupE2 (s : State) : Result := .next (s.skipUnsupported 0xE2 (lengthIn s.params.unsupLen 0xE2))

/-- unsupported opcode, 0xE3 (45 R222). -/
def execUnsupE3 (s : State) : Result := .next (s.skipUnsupported 0xE3 (lengthIn s.params.unsupLen 0xE3))

/-- unsupported opcode, 0xE7 (45 R222). -/
def execUnsupE7 (s : State) : Result := .next (s.skipUnsupported 0xE7 (lengthIn s.params.unsupLen 0xE7))

/-- unsupported opcode, 0xEB (45 R222). -/
def execUnsupEB (s : State) : Result := .next (s.skipUnsupported 0xEB (lengthIn s.params.unsupLen 0xEB))

/-- unsupported opcode, 0xEF (45 R222). -/
def execUnsupEF (s : State) : Result := .next (s.skipUnsupported 0xEF (lengthIn s.params.unsupLen 0xEF))

/-- unsupported opcode, 0xF2 (45 R222). -/
def execUnsupF2 (s : State) : Result := .next (s.skipUnsupported 0xF2 (lengthIn s.params.unsupLen 0xF2))

/-- unsupported opcode, 0xF3 (45 R222). -/
def execUnsupF3 (s : State) : Result := .next (s.skipUnsupported 0xF3 (lengthIn s.params.unsupLen 0xF3))

/-- unsupported opcode, 0xF4 (45 R222). -/
def execUnsupF4 (s : State) : Result := .next (s.skipUnsupported 0xF4 (lengthIn s.params.unsupLen 0xF4))

/-- unsupported opcode, 0xF7 (45 R222). -/
def execUnsupF7 (s : State) : Result := .next (s.skipUnsupported 0xF7 (lengthIn s.params.unsupLen 0xF7))

/-- unsupported opcode, 0xFA (45 R222). -/
def execUnsupFA (s : State) : Result := .next (s.skipUnsupported 0xFA (lengthIn s.params.unsupLen 0xFA))

/-- unsupported opcode, 0xFB (45 R222). -/
def execUnsupFB (s : State) : Result := .next (s.skipUnsupported 0xFB (lengthIn s.params.unsupLen 0xFB))

/-- unsupported opcode, 0xFC (45 R222). -/
def execUnsupFC (s : State) : Result := .next (s.skipUnsupported 0xFC (lengthIn s.params.unsupLen 0xFC))

/-- unsupported opcode, 0xFF (45 R222). -/
def execUnsupFF (s : State) : Result := .next (s.skipUnsupported 0xFF (lengthIn s.params.unsupLen 0xFF))

end Sys2Proof.Machine
end

