-- ==== Sys2Proof/Machine/Dispatch.lean ====
section
/-! DEFINITION. One instruction executed: one arm for each constructor of `Instr`, each one call of that instruction's own
meaning. -/

namespace Sys2Proof.Machine

open Sys2Proof

def exec (i : Instr) (s : State) : Host.Outcome State Fault Refusal :=
  match i with
  | .ldaIzx zp => Sys2Proof.Machine.execLdaIzx zp s
  | .ldaZp zp => Sys2Proof.Machine.execLdaZp zp s
  | .ldaImm m => Sys2Proof.Machine.execLdaImm m s
  | .ldaAbs addr => Sys2Proof.Machine.execLdaAbs addr s
  | .ldaIzy zp => Sys2Proof.Machine.execLdaIzy zp s
  | .ldaZpx zp => Sys2Proof.Machine.execLdaZpx zp s
  | .ldaAby base => Sys2Proof.Machine.execLdaAby base s
  | .ldaAbx base => Sys2Proof.Machine.execLdaAbx base s
  | .ldxImm m => Sys2Proof.Machine.execLdxImm m s
  | .ldxZp zp => Sys2Proof.Machine.execLdxZp zp s
  | .ldxAbs addr => Sys2Proof.Machine.execLdxAbs addr s
  | .ldxZpy zp => Sys2Proof.Machine.execLdxZpy zp s
  | .ldxAby base => Sys2Proof.Machine.execLdxAby base s
  | .ldyImm m => Sys2Proof.Machine.execLdyImm m s
  | .ldyZp zp => Sys2Proof.Machine.execLdyZp zp s
  | .ldyAbs addr => Sys2Proof.Machine.execLdyAbs addr s
  | .ldyZpx zp => Sys2Proof.Machine.execLdyZpx zp s
  | .ldyAbx base => Sys2Proof.Machine.execLdyAbx base s
  | .staIzx zp => Sys2Proof.Machine.execStaIzx zp s
  | .staZp zp => Sys2Proof.Machine.execStaZp zp s
  | .staAbs addr => Sys2Proof.Machine.execStaAbs addr s
  | .staIzy zp => Sys2Proof.Machine.execStaIzy zp s
  | .staZpx zp => Sys2Proof.Machine.execStaZpx zp s
  | .staAby base => Sys2Proof.Machine.execStaAby base s
  | .staAbx base => Sys2Proof.Machine.execStaAbx base s
  | .stxZp zp => Sys2Proof.Machine.execStxZp zp s
  | .stxAbs addr => Sys2Proof.Machine.execStxAbs addr s
  | .stxZpy zp => Sys2Proof.Machine.execStxZpy zp s
  | .styZp zp => Sys2Proof.Machine.execStyZp zp s
  | .styAbs addr => Sys2Proof.Machine.execStyAbs addr s
  | .styZpx zp => Sys2Proof.Machine.execStyZpx zp s
  | .adcIzx zp => Sys2Proof.Machine.execAdcIzx zp s
  | .adcZp zp => Sys2Proof.Machine.execAdcZp zp s
  | .adcImm m => Sys2Proof.Machine.execAdcImm m s
  | .adcAbs addr => Sys2Proof.Machine.execAdcAbs addr s
  | .adcIzy zp => Sys2Proof.Machine.execAdcIzy zp s
  | .adcZpx zp => Sys2Proof.Machine.execAdcZpx zp s
  | .adcAby base => Sys2Proof.Machine.execAdcAby base s
  | .adcAbx base => Sys2Proof.Machine.execAdcAbx base s
  | .sbcIzx zp => Sys2Proof.Machine.execSbcIzx zp s
  | .sbcZp zp => Sys2Proof.Machine.execSbcZp zp s
  | .sbcImm m => Sys2Proof.Machine.execSbcImm m s
  | .sbcAbs addr => Sys2Proof.Machine.execSbcAbs addr s
  | .sbcIzy zp => Sys2Proof.Machine.execSbcIzy zp s
  | .sbcZpx zp => Sys2Proof.Machine.execSbcZpx zp s
  | .sbcAby base => Sys2Proof.Machine.execSbcAby base s
  | .sbcAbx base => Sys2Proof.Machine.execSbcAbx base s
  | .cmpIzx zp => Sys2Proof.Machine.execCmpIzx zp s
  | .cmpZp zp => Sys2Proof.Machine.execCmpZp zp s
  | .cmpImm m => Sys2Proof.Machine.execCmpImm m s
  | .cmpAbs addr => Sys2Proof.Machine.execCmpAbs addr s
  | .cmpIzy zp => Sys2Proof.Machine.execCmpIzy zp s
  | .cmpZpx zp => Sys2Proof.Machine.execCmpZpx zp s
  | .cmpAby base => Sys2Proof.Machine.execCmpAby base s
  | .cmpAbx base => Sys2Proof.Machine.execCmpAbx base s
  | .cpxImm m => Sys2Proof.Machine.execCpxImm m s
  | .cpxZp zp => Sys2Proof.Machine.execCpxZp zp s
  | .cpxAbs addr => Sys2Proof.Machine.execCpxAbs addr s
  | .cpyImm m => Sys2Proof.Machine.execCpyImm m s
  | .cpyZp zp => Sys2Proof.Machine.execCpyZp zp s
  | .cpyAbs addr => Sys2Proof.Machine.execCpyAbs addr s
  | .incZp zp => Sys2Proof.Machine.execIncZp zp s
  | .incAbs addr => Sys2Proof.Machine.execIncAbs addr s
  | .incZpx zp => Sys2Proof.Machine.execIncZpx zp s
  | .incAbx base => Sys2Proof.Machine.execIncAbx base s
  | .decZp zp => Sys2Proof.Machine.execDecZp zp s
  | .decAbs addr => Sys2Proof.Machine.execDecAbs addr s
  | .decZpx zp => Sys2Proof.Machine.execDecZpx zp s
  | .decAbx base => Sys2Proof.Machine.execDecAbx base s
  | .andIzx zp => Sys2Proof.Machine.execAndIzx zp s
  | .andZp zp => Sys2Proof.Machine.execAndZp zp s
  | .andImm m => Sys2Proof.Machine.execAndImm m s
  | .andAbs addr => Sys2Proof.Machine.execAndAbs addr s
  | .andIzy zp => Sys2Proof.Machine.execAndIzy zp s
  | .andZpx zp => Sys2Proof.Machine.execAndZpx zp s
  | .andAby base => Sys2Proof.Machine.execAndAby base s
  | .andAbx base => Sys2Proof.Machine.execAndAbx base s
  | .oraIzx zp => Sys2Proof.Machine.execOraIzx zp s
  | .oraZp zp => Sys2Proof.Machine.execOraZp zp s
  | .oraImm m => Sys2Proof.Machine.execOraImm m s
  | .oraAbs addr => Sys2Proof.Machine.execOraAbs addr s
  | .oraIzy zp => Sys2Proof.Machine.execOraIzy zp s
  | .oraZpx zp => Sys2Proof.Machine.execOraZpx zp s
  | .oraAby base => Sys2Proof.Machine.execOraAby base s
  | .oraAbx base => Sys2Proof.Machine.execOraAbx base s
  | .eorIzx zp => Sys2Proof.Machine.execEorIzx zp s
  | .eorZp zp => Sys2Proof.Machine.execEorZp zp s
  | .eorImm m => Sys2Proof.Machine.execEorImm m s
  | .eorAbs addr => Sys2Proof.Machine.execEorAbs addr s
  | .eorIzy zp => Sys2Proof.Machine.execEorIzy zp s
  | .eorZpx zp => Sys2Proof.Machine.execEorZpx zp s
  | .eorAby base => Sys2Proof.Machine.execEorAby base s
  | .eorAbx base => Sys2Proof.Machine.execEorAbx base s
  | .bitZp zp => Sys2Proof.Machine.execBitZp zp s
  | .bitAbs addr => Sys2Proof.Machine.execBitAbs addr s
  | .aslZp zp => Sys2Proof.Machine.execAslZp zp s
  | .aslAbs addr => Sys2Proof.Machine.execAslAbs addr s
  | .aslZpx zp => Sys2Proof.Machine.execAslZpx zp s
  | .aslAbx base => Sys2Proof.Machine.execAslAbx base s
  | .lsrZp zp => Sys2Proof.Machine.execLsrZp zp s
  | .lsrAbs addr => Sys2Proof.Machine.execLsrAbs addr s
  | .lsrZpx zp => Sys2Proof.Machine.execLsrZpx zp s
  | .lsrAbx base => Sys2Proof.Machine.execLsrAbx base s
  | .rolZp zp => Sys2Proof.Machine.execRolZp zp s
  | .rolAbs addr => Sys2Proof.Machine.execRolAbs addr s
  | .rolZpx zp => Sys2Proof.Machine.execRolZpx zp s
  | .rolAbx base => Sys2Proof.Machine.execRolAbx base s
  | .rorZp zp => Sys2Proof.Machine.execRorZp zp s
  | .rorAbs addr => Sys2Proof.Machine.execRorAbs addr s
  | .rorZpx zp => Sys2Proof.Machine.execRorZpx zp s
  | .rorAbx base => Sys2Proof.Machine.execRorAbx base s
  | .bcc off => Sys2Proof.Machine.execBcc off s
  | .bcs off => Sys2Proof.Machine.execBcs off s
  | .beq off => Sys2Proof.Machine.execBeq off s
  | .bmi off => Sys2Proof.Machine.execBmi off s
  | .bne off => Sys2Proof.Machine.execBne off s
  | .bpl off => Sys2Proof.Machine.execBpl off s
  | .bvc off => Sys2Proof.Machine.execBvc off s
  | .bvs off => Sys2Proof.Machine.execBvs off s
  | .jmpAbs addr => Sys2Proof.Machine.execJmpAbs addr s
  | .jmpInd ptr => Sys2Proof.Machine.execJmpInd ptr s
  | .jsr addr => Sys2Proof.Machine.execJsr addr s
  | .tax => Sys2Proof.Machine.execTax s
  | .tay => Sys2Proof.Machine.execTay s
  | .txa => Sys2Proof.Machine.execTxa s
  | .tya => Sys2Proof.Machine.execTya s
  | .tsx => Sys2Proof.Machine.execTsx s
  | .txs => Sys2Proof.Machine.execTxs s
  | .pha => Sys2Proof.Machine.execPha s
  | .php => Sys2Proof.Machine.execPhp s
  | .pla => Sys2Proof.Machine.execPla s
  | .plp => Sys2Proof.Machine.execPlp s
  | .inx => Sys2Proof.Machine.execInx s
  | .iny => Sys2Proof.Machine.execIny s
  | .dex => Sys2Proof.Machine.execDex s
  | .dey => Sys2Proof.Machine.execDey s
  | .aslAcc => Sys2Proof.Machine.execAslAcc s
  | .lsrAcc => Sys2Proof.Machine.execLsrAcc s
  | .rolAcc => Sys2Proof.Machine.execRolAcc s
  | .rorAcc => Sys2Proof.Machine.execRorAcc s
  | .rts => Sys2Proof.Machine.execRts s
  | .rti => Sys2Proof.Machine.execRti s
  | .clc => Sys2Proof.Machine.execClc s
  | .sec => Sys2Proof.Machine.execSec s
  | .cli => Sys2Proof.Machine.execCli s
  | .sei => Sys2Proof.Machine.execSei s
  | .clv => Sys2Proof.Machine.execClv s
  | .cld => Sys2Proof.Machine.execCld s
  | .sed => Sys2Proof.Machine.execSed s
  | .nop => Sys2Proof.Machine.execNop s
  | .brk => Sys2Proof.Machine.execBrk s
  | .unsup02 => Sys2Proof.Machine.execUnsup02 s
  | .unsup03 => Sys2Proof.Machine.execUnsup03 s
  | .unsup04 => Sys2Proof.Machine.execUnsup04 s
  | .unsup07 => Sys2Proof.Machine.execUnsup07 s
  | .unsup0B => Sys2Proof.Machine.execUnsup0B s
  | .unsup0C => Sys2Proof.Machine.execUnsup0C s
  | .unsup0F => Sys2Proof.Machine.execUnsup0F s
  | .unsup12 => Sys2Proof.Machine.execUnsup12 s
  | .unsup13 => Sys2Proof.Machine.execUnsup13 s
  | .unsup14 => Sys2Proof.Machine.execUnsup14 s
  | .unsup17 => Sys2Proof.Machine.execUnsup17 s
  | .unsup1A => Sys2Proof.Machine.execUnsup1A s
  | .unsup1B => Sys2Proof.Machine.execUnsup1B s
  | .unsup1C => Sys2Proof.Machine.execUnsup1C s
  | .unsup1F => Sys2Proof.Machine.execUnsup1F s
  | .unsup22 => Sys2Proof.Machine.execUnsup22 s
  | .unsup23 => Sys2Proof.Machine.execUnsup23 s
  | .unsup27 => Sys2Proof.Machine.execUnsup27 s
  | .unsup2B => Sys2Proof.Machine.execUnsup2B s
  | .unsup2F => Sys2Proof.Machine.execUnsup2F s
  | .unsup32 => Sys2Proof.Machine.execUnsup32 s
  | .unsup33 => Sys2Proof.Machine.execUnsup33 s
  | .unsup34 => Sys2Proof.Machine.execUnsup34 s
  | .unsup37 => Sys2Proof.Machine.execUnsup37 s
  | .unsup3A => Sys2Proof.Machine.execUnsup3A s
  | .unsup3B => Sys2Proof.Machine.execUnsup3B s
  | .unsup3C => Sys2Proof.Machine.execUnsup3C s
  | .unsup3F => Sys2Proof.Machine.execUnsup3F s
  | .unsup42 => Sys2Proof.Machine.execUnsup42 s
  | .unsup43 => Sys2Proof.Machine.execUnsup43 s
  | .unsup44 => Sys2Proof.Machine.execUnsup44 s
  | .unsup47 => Sys2Proof.Machine.execUnsup47 s
  | .unsup4B => Sys2Proof.Machine.execUnsup4B s
  | .unsup4F => Sys2Proof.Machine.execUnsup4F s
  | .unsup52 => Sys2Proof.Machine.execUnsup52 s
  | .unsup53 => Sys2Proof.Machine.execUnsup53 s
  | .unsup54 => Sys2Proof.Machine.execUnsup54 s
  | .unsup57 => Sys2Proof.Machine.execUnsup57 s
  | .unsup5A => Sys2Proof.Machine.execUnsup5A s
  | .unsup5B => Sys2Proof.Machine.execUnsup5B s
  | .unsup5C => Sys2Proof.Machine.execUnsup5C s
  | .unsup5F => Sys2Proof.Machine.execUnsup5F s
  | .unsup62 => Sys2Proof.Machine.execUnsup62 s
  | .unsup63 => Sys2Proof.Machine.execUnsup63 s
  | .unsup64 => Sys2Proof.Machine.execUnsup64 s
  | .unsup67 => Sys2Proof.Machine.execUnsup67 s
  | .unsup6B => Sys2Proof.Machine.execUnsup6B s
  | .unsup6F => Sys2Proof.Machine.execUnsup6F s
  | .unsup72 => Sys2Proof.Machine.execUnsup72 s
  | .unsup73 => Sys2Proof.Machine.execUnsup73 s
  | .unsup74 => Sys2Proof.Machine.execUnsup74 s
  | .unsup77 => Sys2Proof.Machine.execUnsup77 s
  | .unsup7A => Sys2Proof.Machine.execUnsup7A s
  | .unsup7B => Sys2Proof.Machine.execUnsup7B s
  | .unsup7C => Sys2Proof.Machine.execUnsup7C s
  | .unsup7F => Sys2Proof.Machine.execUnsup7F s
  | .unsup80 => Sys2Proof.Machine.execUnsup80 s
  | .unsup82 => Sys2Proof.Machine.execUnsup82 s
  | .unsup83 => Sys2Proof.Machine.execUnsup83 s
  | .unsup87 => Sys2Proof.Machine.execUnsup87 s
  | .unsup89 => Sys2Proof.Machine.execUnsup89 s
  | .unsup8B => Sys2Proof.Machine.execUnsup8B s
  | .unsup8F => Sys2Proof.Machine.execUnsup8F s
  | .unsup92 => Sys2Proof.Machine.execUnsup92 s
  | .unsup93 => Sys2Proof.Machine.execUnsup93 s
  | .unsup97 => Sys2Proof.Machine.execUnsup97 s
  | .unsup9B => Sys2Proof.Machine.execUnsup9B s
  | .unsup9C => Sys2Proof.Machine.execUnsup9C s
  | .unsup9E => Sys2Proof.Machine.execUnsup9E s
  | .unsup9F => Sys2Proof.Machine.execUnsup9F s
  | .unsupA3 => Sys2Proof.Machine.execUnsupA3 s
  | .unsupA7 => Sys2Proof.Machine.execUnsupA7 s
  | .unsupAB => Sys2Proof.Machine.execUnsupAB s
  | .unsupAF => Sys2Proof.Machine.execUnsupAF s
  | .unsupB2 => Sys2Proof.Machine.execUnsupB2 s
  | .unsupB3 => Sys2Proof.Machine.execUnsupB3 s
  | .unsupB7 => Sys2Proof.Machine.execUnsupB7 s
  | .unsupBB => Sys2Proof.Machine.execUnsupBB s
  | .unsupBF => Sys2Proof.Machine.execUnsupBF s
  | .unsupC2 => Sys2Proof.Machine.execUnsupC2 s
  | .unsupC3 => Sys2Proof.Machine.execUnsupC3 s
  | .unsupC7 => Sys2Proof.Machine.execUnsupC7 s
  | .unsupCB => Sys2Proof.Machine.execUnsupCB s
  | .unsupCF => Sys2Proof.Machine.execUnsupCF s
  | .unsupD2 => Sys2Proof.Machine.execUnsupD2 s
  | .unsupD3 => Sys2Proof.Machine.execUnsupD3 s
  | .unsupD4 => Sys2Proof.Machine.execUnsupD4 s
  | .unsupD7 => Sys2Proof.Machine.execUnsupD7 s
  | .unsupDA => Sys2Proof.Machine.execUnsupDA s
  | .unsupDB => Sys2Proof.Machine.execUnsupDB s
  | .unsupDC => Sys2Proof.Machine.execUnsupDC s
  | .unsupDF => Sys2Proof.Machine.execUnsupDF s
  | .unsupE2 => Sys2Proof.Machine.execUnsupE2 s
  | .unsupE3 => Sys2Proof.Machine.execUnsupE3 s
  | .unsupE7 => Sys2Proof.Machine.execUnsupE7 s
  | .unsupEB => Sys2Proof.Machine.execUnsupEB s
  | .unsupEF => Sys2Proof.Machine.execUnsupEF s
  | .unsupF2 => Sys2Proof.Machine.execUnsupF2 s
  | .unsupF3 => Sys2Proof.Machine.execUnsupF3 s
  | .unsupF4 => Sys2Proof.Machine.execUnsupF4 s
  | .unsupF7 => Sys2Proof.Machine.execUnsupF7 s
  | .unsupFA => Sys2Proof.Machine.execUnsupFA s
  | .unsupFB => Sys2Proof.Machine.execUnsupFB s
  | .unsupFC => Sys2Proof.Machine.execUnsupFC s
  | .unsupFF => Sys2Proof.Machine.execUnsupFF s

end Sys2Proof.Machine
end

