-- ==== Sys2Proof/Machine/Synth.lean ====
section
/-! DEFINITION. The engine's per-sample advance (47_synth_engine.md rules R285, R290 to R302). The result of
each operation is taken in the numeric domain `p.num`. -/

namespace Sys2Proof.Machine

/-- The entry of a 16-entry table that a nibble selects (47 R290). -/
def nibbleEntry (t : Vector Number 16) (n : BitVec 4) : Number := t[n.toNat]'(n.isLt)

/-- The level a sustain nibble stands for (47 R279). -/
def sustainLevel (num : NumDomain) (n : BitVec 4) : Number := num.div (.nat n.toNat) (.rat 15)

/-- The change of the level per sample that a time in seconds for the full scale gives (47 R291). -/
def levelStep (num : NumDomain) (time fs : Number) : Number := num.div (.rat 1) (num.mul time fs)

/-- The attack's level after rising by `da` (47 R291). -/
def risenLevel (p : Params) (fs : Number) (w : Voice) : Number :=
  p.num.add w.level (levelStep p.num (nibbleEntry p.attackS w.att) fs)

/-- The level after falling by `dd` towards the sustain level, as Decay and Sustain do (47 R291). -/
def fallToSustain (p : Params) (fs : Number) (w : Voice) : Number :=
  if (sustainLevel p.num w.sus).lt w.level then
    (sustainLevel p.num w.sus).max (p.num.sub w.level (levelStep p.num (nibbleEntry p.decRelS w.dec) fs))
  else w.level

/-- The release's level after falling by `dr` (47 R291). -/
def releasedLevel (p : Params) (fs : Number) (w : Voice) : Number :=
  p.num.sub w.level (levelStep p.num (nibbleEntry p.decRelS w.rel) fs)

/-- The envelope's step (47 R291). -/
def Voice.envelopeStep (p : Params) (fs : Number) (w : Voice) : Voice :=
  match w.stage with
  | .idle => { w with level := .rat 0 }
  | .attack =>
    if Number.le (.rat 1) (risenLevel p fs w) then { w with level := .rat 1, stage := .decay }
    else { w with level := risenLevel p fs w }
  | .decay =>
    { w with
      level := fallToSustain p fs w
      stage := if (fallToSustain p fs w).le (sustainLevel p.num w.sus) then .sustain else .decay }
  | .sustain => { w with level := fallToSustain p fs w }
  | .release =>
    if (releasedLevel p fs w).le (.rat 0) then { w with level := .rat 0, stage := .idle }
    else { w with level := releasedLevel p fs w }

/-- What the oscillator's advance gives: the new phase before hard sync, whether the phase wrapped, and the number of
clocks of the noise register (47 R293). -/
structure OscStep where
  phase : TemperedReal
  wrapped : Bool
  clocks : Nat
  deriving DecidableEq, Repr

/-- The phase before it is wrapped, `u` (47 R293). -/
def Voice.advanced (num : NumDomain) (fs : Number) (w : Voice) : TemperedReal :=
  num.temperedAdd w.phase (num.temperedDiv (num.temperedMul w.ratio w.hz) fs)

/-- The oscillator's advance (47 R293). DESIGN CHOICE (log 35): where the difference of the two floors is negative, which
only a rounded phase, a negative frequency or a phase outside [0, 1) gives, the noise register is clocked 0 times. -/
def Voice.oscStep (num : NumDomain) (fs : Number) (w : Voice) : OscStep :=
  if w.test then { phase := TemperedReal.ofNumber (.rat 0), wrapped := false, clocks := 0 }
  else
    { phase := num.temperedFrac (w.advanced num fs)
      wrapped := decide (1 ≤ (w.advanced num fs).floor)
      clocks :=
        ((num.temperedMul (.rat 16) (w.advanced num fs)).floor - (num.temperedMul (.rat 16) w.phase).floor).toNat }

/-- The neighbour of a voice, `src(v) = (v + 2) mod 3` (47 R294). -/
def neighbour (v : VoiceId) : VoiceId := v + 2

/-- The phase after hard sync (47 R294). -/
def syncedPhase (w : Voice) (own src : OscStep) : TemperedReal :=
  if w.sync && src.wrapped && !w.test then TemperedReal.ofNumber (.rat 0) else own.phase

/-- One clock of the noise register (47 R296). -/
def lfsrClock (r : BitVec 23) : BitVec 23 := (r <<< 1) ||| (BitVec.ofBool (r.getLsbD 22 ^^ r.getLsbD 17)).setWidth 23

/-- That many clocks of the noise register. -/
def lfsrClocks : Nat → BitVec 23 → BitVec 23
  | 0, r => r
  | n + 1, r => lfsrClocks n (lfsrClock r)

/-- The noise register after a sample (47 R295, R296). -/
def noiseStep (w : Voice) (own : OscStep) : BitVec 23 := if w.test then lfsrSeed else lfsrClocks own.clocks w.lfsr

/-- The 8-bit noise value `n8` (47 R296). -/
def noise8 (r : BitVec 23) : Byte :=
  BitVec.ofBool (r.getLsbD 22) ++ BitVec.ofBool (r.getLsbD 20) ++ BitVec.ofBool (r.getLsbD 16) ++
    BitVec.ofBool (r.getLsbD 13) ++ BitVec.ofBool (r.getLsbD 11) ++ BitVec.ofBool (r.getLsbD 7) ++
    BitVec.ofBool (r.getLsbD 4) ++ BitVec.ofBool (r.getLsbD 2)

/-- The 12-bit phase index, `floor(4096 * phase)` (47 R297). DESIGN CHOICE (log 35): it is taken modulo 4096, which changes
nothing for a phase in [0, 1), the one kind that a run over exact reals reaches; a rounded phase may lie outside. -/
def phaseIndex (num : NumDomain) (phase : TemperedReal) : BitVec 12 :=
  BitVec.ofInt 12 (num.temperedMul (.rat 4096) phase).floor

/-- The sawtooth's contribution (47 R297). -/
def saw12 (q : BitVec 12) : BitVec 12 := q

/-- The triangle's contribution; ring modulation lets the neighbour's sign into the fold (47 R297). -/
def tri12 (ring : Bool) (q qs : BitVec 12) : BitVec 12 :=
  if q.getLsbD 11 ^^ (ring && qs.getLsbD 11) then (q <<< 1) ^^^ 0xFFF else q <<< 1

/-- The pulse's contribution (47 R297). -/
def pulse12 (pw q : BitVec 12) : BitVec 12 := if pw ≤ q then 0xFFF else 0x000

/-- The noise's contribution, `n8 << 4` (47 R296). -/
def noise12 (r : BitVec 23) : BitVec 12 := noise8 r ++ 0#4

/-- The combined contribution `W`: noise alone if its bit is set, else the bitwise or of the selected ones
(47 R285, R298). -/
def combined12 (w : Voice) (q qs : BitVec 12) : BitVec 12 :=
  if w.wave.getLsbD 3 then noise12 w.lfsr
  else
    (if w.wave.getLsbD 0 then tri12 w.ring q qs else 0) |||
      (if w.wave.getLsbD 1 then saw12 q else 0) |||
      (if w.wave.getLsbD 2 then pulse12 w.pw q else 0)

/-- The oscillator's output (47 R298). -/
def Voice.osc (num : NumDomain) (w : Voice) (q qs : BitVec 12) : Number :=
  if w.wave = 0 then .rat 0 else num.div (num.sub (.nat (combined12 w q qs).toNat) (.rat 2048)) (.rat 2048)

/-- The voice's output (47 R299). -/
def Voice.output (num : NumDomain) (w : Voice) (q qs : BitVec 12) : Number :=
  num.mul (num.mul (w.osc num q qs) w.level) (num.div (.nat w.vel.val) (.rat 127))

/-- The numerator of the argument of the filter's sine, `min(fc, fs / 6)` in Hz (47 R300). -/
def filterHz (num : NumDomain) (cutoff fs : Number) : Number :=
  (num.add (.rat 30) (num.mul cutoff (.rat 11970))).min (num.div fs (.rat 6))

/-- The filter's damping (47 R300). DESIGN CHOICE (log 29): in a rounding domain its literals 1.4 and 1.3, which are no
integers, are rounded too. -/
def filterDamp (num : NumDomain) (res : Number) : Number :=
  num.sub (num.of (.rat (14 / 10))) (num.mul (num.of (.rat (13 / 10))) res)

/-- The product of a filter value with the coefficient `F = 2 * sin(pi * hz / fs)` (47 R300). -/
def timesCoefficient (num : NumDomain) (hz fs : Number) (x : FilterReal) : FilterReal :=
  match num with
  | .exact => x.mulSin (hz.div fs)
  | .rounding n => num.filterMul (.rat (Config.filterCoefficient n hz fs)) x

/-- FILTER at its default: a state-variable filter (47 R300). -/
def filterStep (num : NumDomain) (i : FilterIn FilterReal Number) : FilterOut FilterReal :=
  let hz := filterHz num i.cutoff i.fs
  let low := num.filterAdd i.low (timesCoefficient num hz i.fs i.band)
  let rest := num.filterSub (.number i.x) low
  let high := num.filterSub rest (num.filterMul (filterDamp num i.res) i.band)
  let band := num.filterAdd i.band (timesCoefficient num hz i.fs high)
  { low := low
    band := band
    y := match i.mode with
      | .lp => low
      | .bp => band
      | .hp => high
      | .off => FilterReal.zero }

/-- A replacement of FILTER: over exact reals its results are those of `RealValues.filter`, which meets the requirements of
47 R300; in a rounding domain they are rounded, but for the zeros that those requirements give (log 28, log 29). -/
def replacementStep (num : NumDomain) (n : Nat) (i : FilterIn FilterReal Number) : FilterOut FilterReal :=
  let r := i.replaced n
  let y := if i.mode = .off then FilterReal.zero else num.ofFilter r.y
  match num with
  | .exact => { low := r.low, band := r.band, y := y }
  | .rounding _ =>
    if i.x = .rat 0 ∧ i.low = FilterReal.zero ∧ i.band = FilterReal.zero then
      { low := FilterReal.zero, band := FilterReal.zero, y := FilterReal.zero }
    else { low := num.ofFilter r.low, band := num.ofFilter r.band, y := y }

/-- FILTER (47 R300). -/
def runFilter (p : Params) (i : FilterIn FilterReal Number) : FilterOut FilterReal :=
  match p.filter with
  | .stateVariable => filterStep p.num i
  | .replacement n => replacementStep p.num n i

/-- The voices after steps (1) to (4) of 47 R302: envelopes, oscillators, hard sync, noise registers. -/
def Engine.advanceVoices (p : Params) (e : Engine) : PerVoice Voice :=
  let env := PerVoice.ofFn fun v => (e.voices.get v).envelopeStep p e.fs
  let osc := PerVoice.ofFn fun v => (env.get v).oscStep p.num e.fs
  PerVoice.ofFn fun v =>
    { env.get v with
      phase := syncedPhase (env.get v) (osc.get v) (osc.get (neighbour v))
      lfsr := noiseStep (env.get v) (osc.get v) }

/-- The output of voice `v` on the advanced phases, 0 when it is muted: `vo[v]` (47 R299, R301, 48 R324). -/
def voiceOut (num : NumDomain) (mute : PerVoice Bool) (vs : PerVoice Voice) (v : VoiceId) : Number :=
  if mute.get v then .rat 0
  else (vs.get v).output num (phaseIndex num (vs.get v).phase) (phaseIndex num (vs.get (neighbour v)).phase)

/-- The sum of `vo[v]` over the voices whose routing bit is `on`, in the order 0, 1, 2 (47 R301). -/
def routedSum (num : NumDomain) (mute route : PerVoice Bool) (vs : PerVoice Voice) (on : Bool) : Number :=
  [0, 1, 2].foldl (fun sum v => if route.get v = on then num.add sum (voiceOut num mute vs v) else sum)
    (.rat 0)

/-- The engine after a sample, and the stereo frame. -/
structure SampleOut where
  engine : Engine
  left : FilterReal
  right : FilterReal
  deriving DecidableEq, Repr

/-- The mixed sample `m` (47 R301). -/
def mixSample (p : Params) (e : Engine) (direct : Number) (y : FilterReal) : FilterReal :=
  let sum := p.num.filterAdd (.number direct) y
  p.num.filterMul p.mixScale (p.num.filterMul (p.num.div (.nat e.volume.toNat) (.rat 15)) sum)

/-- What the filter is given in a sample whose voices have advanced to `vs` (47 R300, R301). -/
def filterInput (p : Params) (mute : PerVoice Bool) (vs : PerVoice Voice) (e : Engine) : FilterIn FilterReal Number where
  low := e.low
  band := e.band
  cutoff := e.cutoff
  res := e.res
  mode := e.mode
  fs := e.fs
  x := routedSum p.num mute e.route vs true

/-- `process_one_sample()` (47 R302): the engine one sample on, and the frame `(m, m)` (48 R320). -/
def Engine.processOneSample (p : Params) (mute : PerVoice Bool) (e : Engine) : SampleOut :=
  let vs := e.advanceVoices p
  let f := runFilter p (filterInput p mute vs e)
  let m := mixSample p e (routedSum p.num mute e.route vs false) f.y
  { engine := { e with voices := vs, low := f.low, band := f.band }, left := m, right := m }

end Sys2Proof.Machine
end

