-- ==== Sys2Proof/Machine/Scheduler.lean ====
section
/-! DEFINITION. The Playback Scheduler (49_playback_scheduler.md) and the Audio Sample Interleaver
(48_sample_interleaver.md), but for the burst loop's call of the processor, which stands in Fetch.lean. -/

namespace Sys2Proof.Machine

/-- `TimingOf(speed, n)` (49 R333). -/
def timingOf (p : Params) (speed : BitVec 32) (n : Nat) : Timing :=
  if speed = 0 then (if p.slowIsDefault then .slow else .fast)
  else if speed.getLsbD (if n < 32 then n else 31) then .fast else .slow

/-- `frame_rate` (49 R333). -/
def State.frameRate (s : State) : Number :=
  match s.play.timing with
  | .slow => s.params.frameRateSlow
  | .fast => s.params.frameRateFast

/-- `spf`, the samples per chip frame (49 R345); for a frame rate of 0 a free value (log 31). -/
def State.samplesPerFrame (s : State) : Number := s.params.num.div s.params.sampleRate s.frameRate

/-- `note_off` on the three voices (49 R348). -/
def Engine.releaseAll (e : Engine) : Engine := ((e.noteOff 0).noteOff 1).noteOff 2

/-- `stop()` (49 R348). -/
def State.stopPlayback (s : State) : State :=
  { s with
    engine := s.engine.releaseAll
    play := { s.play with playing := false, acc := .rat 0, elapsedMs := .rat 0 } }

/-- The start of RunBurst: the sentinel return address less one is pushed, high byte first, and `PC` is set; the burst's
`sp_in` is the stack pointer before the pushes (49 R334, R339). -/
def State.fabricateCall (s : State) (target : Word) (caller : Caller) : State :=
  { (s.push16 (s.params.sentinelPC - 1)).setPC target with task := .burst caller s.sp 0 }

/-- The address the init burst runs: the init address, or the load address if that is 0 (49 R332). -/
def SongInfo.initTarget (song : SongInfo) : Word := if song.initAddr = 0 then song.loadAddr else song.initAddr

/-- `start()` with a song loaded and the player Stopped, up to the first step of the init burst (49 R332). -/
def State.beginStart (s : State) : State :=
  let t : State :=
    { s.coreReset with
      engine := s.engine.setSampleRate s.params.sampleRate
      play := { s.play with acc := .rat 0, elapsedMs := .rat 0, timing := timingOf s.params s.song.speed s.play.subsong } }
  (t.fabricateCall s.song.initTarget .init).setA (BitVec.ofNat 8 s.play.subsong)

/-- The call `start()`: nothing without a song, `stop()` first while Playing (49 R332, R350). A sample rate that is not
positive is refused (93 I31; log 13). -/
def State.callStart (s : State) : Result :=
  if s.song.loaded then
    (if Number.lt (.rat 0) s.params.sampleRate then .next (if s.play.playing then s.stopPlayback else s).beginStart
     else .refused .invalidSampleRate)
  else .next s

/-- The call `select_subsong(n)` (49 R349). -/
def State.callSelectSubsong (s : State) (n : Nat) : Result :=
  if s.song.loaded && decide (n < max s.song.songs.toNat 1) then
    let t : State := { s with play := { s.play with subsong := n, timing := timingOf s.params s.song.speed n } }
    if s.play.playing then t.callStart else .next t
  else .next s

/-- The call `process(count)`, up to its first output frame; the output buffer is new (48 R326, 49 R344, R351; log 16). A
sample rate that is not positive is refused (93 I31; log 13). -/
def State.callProcess (s : State) (count : Nat) : Result :=
  if Number.lt (.rat 0) s.params.sampleRate then
    .next { s with out := [], task := if count = 0 then .idle else .frame count }
  else .refused .invalidSampleRate

/-- The word of the backing array at a vector location (49 R341). -/
def State.vectorAt (s : State) (v : Word) : Word := wordOf (s.mem.read (v + 1).toNat) (s.mem.read v.toNat)

/-- Whether an address falls inside the loaded program's range (49 R341). -/
def SongInfo.contains (song : SongInfo) (a : Word) : Bool :=
  decide (song.loadAddr.toNat ≤ a.toNat) && decide (a.toNat < song.loadEnd)

/-- `Discover()` (49 R341): the first vector that points into the loaded program, 0 if none does. -/
def State.discover (s : State) : Word :=
  ((s.params.vecSearch.map s.vectorAt).find? s.song.contains).getD 0

/-- The play address that `start()` puts into effect (49 R332). -/
def State.playAddress (s : State) : Word := if s.song.playAddr = 0 then s.discover else s.song.playAddr

/-- The rest of `start()` after the init burst, however it ended (49 R332, R336, R342): E6 is raised if there is no play
routine (60 R372). -/
def State.finishStart (s : State) : State :=
  { (if s.playAddress = 0 then s.raise .noPlayRoutine else s) with
    play := { s.play with playEff := s.playAddress, playing := true }
    task := .idle }

/-- A chip frame ends: the elapsed time, then the position callback if one is bound (49 R344, R347); for a frame rate of 0
the time added is a free value (log 31). -/
def State.chipFrameEnd (s : State) : State :=
  let t : Number := s.params.num.add s.play.elapsedMs (s.params.num.div (.rat 1000) s.frameRate)
  { s with
    play := { s.play with elapsedMs := t }
    callbacks := if s.ctl.callbackBound then (s.play.subsong, t) :: s.callbacks else s.callbacks }

/-- The caller goes on after its burst, however it ended (49 R336, R339). -/
def State.afterBurst (s : State) : Caller → State
  | .init => s.finishStart
  | .play left => { s.chipFrameEnd with task := .sample left }

/-- The start of an output frame (49 R344): the accumulator, and the play burst if a chip frame is due. While Stopped only
the engine is pulled (49 R351). -/
def State.frameStep (s : State) (left : Nat) : State :=
  if s.play.playing then
    let acc : Number := s.params.num.add s.play.acc (.rat 1)
    if s.samplesPerFrame.le acc then
      let t : State := { s with play := { s.play with acc := s.params.num.sub acc s.samplesPerFrame } }
      if t.play.playEff ≠ 0 then t.fabricateCall t.play.playEff (.play left)
      else { t.chipFrameEnd with task := .sample left }
    else { s with play := { s.play with acc := acc }, task := .sample left }
  else { s with task := .sample left }

/-- One engine sample is pulled and written to both channels, left first (48 R321, R322, R323). -/
def State.sampleStep (s : State) (left : Nat) : State :=
  let o := s.engine.processOneSample s.params s.ctl.mute
  { s with
    engine := o.engine
    out := s.out ++ [s.params.num.filterMul s.ctl.gain o.left, s.params.num.filterMul s.ctl.gain o.right]
    task := if left ≤ 1 then .idle else .frame (left - 1) }

/-- `SP_GUARD(sp_in, sp)`; the default is `(sp_in -_8 sp)[7] == 1` (49 R338). -/
def spGuard (p : Params) (spIn sp : Byte) : Bool :=
  match p.spGuard with
  | .aboveEntry => (spIn - sp).getLsbD 7
  | .heldBy pairs => pairs.contains (spIn, sp)

/-- RunBurst returns to its caller (49 R339). -/
def State.endBurst (s : State) (caller : Caller) (how : BurstEnd) : State := { s with task := .burstDone caller how }

/-- The guards of the burst loop after a step: the program counter's, then the stack pointer's (49 R337, R338, R339, R356).
`pc0` is the program counter before the step, `used` the cycles used with it. -/
def State.guardBurst (s : State) (caller : Caller) (spIn : Byte) (used : Nat) (pc0 : Word) : State :=
  if s.pc = pc0 ∧ s.ctl.loopDetectionDisabled = false then (s.raise .burstStuckPC).endBurst caller .stuckPC
  else if spGuard s.params spIn s.sp then (s.raise .burstStackDrift).endBurst caller .stackDrift
  else { s with task := .burst caller spIn used }

end Sys2Proof.Machine
end

