-- ==== Sys2Proof/Machine/Loader.lean ====
section
/-! DEFINITION. The Song Loader, which is the boot (70_reset_and_hazards.md rules R405 to R416). -/

namespace Sys2Proof.Machine

/-- Byte `o` of a file. DESIGN CHOICE (log 30): beyond the file's end, where the spec says nothing, it is a free value; an
accepted file reaches past every header field unless HEADER_SIZE is below 118. -/
def byteAt (file : List Byte) (o : Nat) : Byte := file.getD o (Config.missingByte o)

/-- The big-endian 16-bit field at offset `o` (70 R411). -/
def be16 (file : List Byte) (o : Nat) : Word := wordOf (byteAt file o) (byteAt file (o + 1))

/-- The big-endian 32-bit field at offset `o` (70 R411). -/
def be32 (file : List Byte) (o : Nat) : BitVec 32 := be16 file o ++ be16 file (o + 2)

/-- The 32 bytes of a string field at offset `o` (70 R411). -/
def text32 (file : List Byte) (o : Nat) : Vector Byte 32 := Vector.ofFn fun i : Fin 32 => byteAt file (o + i.val)

/-- `detect(bytes)`: the magic is "PSID" or "RSID" (70 R405). -/
def detect (file : List Byte) : Bool :=
  decide (file.take 4 = [0x50, 0x53, 0x49, 0x44]) || decide (file.take 4 = [0x52, 0x53, 0x49, 0x44])

/-- Where the payload begins: the data offset if it lies in the file after the header, else the header's end (70 R413). -/
def payloadOffset (p : Params) (file : List Byte) : Nat :=
  if p.headerSize ≤ (be16 file 0x06).toNat ∧ (be16 file 0x06).toNat ≤ file.length then (be16 file 0x06).toNat
  else p.headerSize

/-- The program image of a file: where it goes and its bytes, before truncation. -/
structure Image where
  base : Word
  bytes : List Byte
  deriving DecidableEq, Repr

/-- The image of a file, or nothing where the load fails: too short, wrong magic, or a zero load address with fewer than
two payload bytes (70 R412, R413, R414). The embedded load address is little-endian (70 R411). -/
def parseImage (p : Params) (file : List Byte) : Option Image :=
  if file.length < p.headerSize || !detect file then none
  else if be16 file 0x08 = 0 then
    match file.drop (payloadOffset p file) with
    | lo :: hi :: rest => some { base := wordOf hi lo, bytes := rest }
    | [_] => none
    | [] => none
  else some { base := be16 file 0x08, bytes := file.drop (payloadOffset p file) }

/-- How many bytes of the image are copied, `n` (70 R415). -/
def Image.copied (img : Image) : Nat := min img.bytes.length (Memory.size - img.base.toNat)

/-- The 0-based default subsong from the header's 1-based field (70 R416). -/
def defaultSongOf (startSong songs : Word) : Nat :=
  if startSong = 0 then 0 else min (startSong.toNat - 1) (max songs.toNat 1 - 1)

/-- SongInfo after a successful load (70 R416). -/
def songOf (file : List Byte) (img : Image) : SongInfo where
  title := text32 file 0x16
  author := text32 file 0x36
  released := text32 file 0x56
  version := be16 file 0x04
  dataOffset := be16 file 0x06
  loadAddr := img.base
  initAddr := be16 file 0x0A
  playAddr := be16 file 0x0C
  loadEnd := img.base.toNat + img.copied
  songs := be16 file 0x0E
  defaultSong := defaultSongOf (be16 file 0x10) (be16 file 0x0E)
  speed := be32 file 0x12
  loaded := true

/-- A successful load (70 R413): playback is stopped, the engine and the cache are reset, memory holds the image alone,
and the song is the file's. The processor's registers stay. -/
def State.loadImage (s : State) (file : List Byte) (img : Image) : State :=
  let song := songOf file img
  { s.stopPlayback with
    engine := s.stopPlayback.engine.restart
    cache := resetCache
    mem := Memory.ofImage img.base.toNat img.bytes
    song := song
    play :=
      { playing := false
        subsong := song.defaultSong
        acc := .rat 0
        elapsedMs := .rat 0
        timing := timingOf s.params song.speed song.defaultSong
        playEff := song.playAddr }
    loadResult := some true }

/-- The call `load(bytes)` (70 R412, R413): a failure is reported and changes nothing else. The event E5 is raised for all
three failures, also for the one that 70 R412 adds and the table of 60 R372 does not list. DEDUCED (log 36). -/
def State.callLoad (s : State) (file : List Byte) : State :=
  match parseImage s.params file with
  | some img => s.loadImage file img
  | none => { s.raise .loadError with loadResult := some false }

end Sys2Proof.Machine
end

