-- ==== Sys2Proof/Machine/Fetch.lean ====
section
/-! DEFINITION. The processor's `step()` (45 R220, R221), the burst loop that calls it (49 R339), and the beginning of a
host call. -/

namespace Sys2Proof.Machine

/-- The opcode byte at `PC` (45 R221). -/
def State.fetchOpcode (s : State) : Byte := s.memRead s.pc

/-- The instruction at `PC`: the opcode and, where it has them, the operand bytes at `PC +_16 1` and `PC +_16 2`
(30 R92). Reads have no effect, so that a byte is read in vain cannot be seen (20 R62, R68). -/
def State.fetchInstr (s : State) : Instr := decode3 s.fetchOpcode (s.memRead (s.pc + 1)) (s.memRead (s.pc + 2))

/-- The processor's `step()` (45 R221): an opcode that SUPPORTED leaves out is skipped with the length of its row
(30 R94), any other is executed. -/
def State.cpuStep (s : State) : Result :=
  if s.params.dropped.contains s.fetchOpcode then
    .next (s.skipUnsupported s.fetchOpcode ((decode3 s.fetchOpcode 0 0).length s.params.unsupLen))
  else exec s.fetchInstr s

/-- One turn of the burst loop (49 R339): the sentinel, the budget, a step, the guards. -/
def State.burstStep (s : State) (caller : Caller) (spIn : Byte) (used : Nat) : Result :=
  if s.pc = s.params.sentinelPC then .next (s.endBurst caller .returned)
  else if s.params.maxCycles ≤ used then .next ((s.raise .burstBudget).endBurst caller .budget)
  else
    match s.cpuStep with
    | .next t => .next (t.guardBurst caller spIn (used + t.cycles) s.pc)
    | .fault f => .fault f
    | .refused r => .refused r

/-- A host call begins (00 R8, 49 R331). -/
def State.beginCall (s : State) : HostCall → Result
  | .load bytes => .next (s.callLoad bytes)
  | .start => s.callStart
  | .stop => .next s.stopPlayback
  | .process count => s.callProcess count
  | .selectSubsong n => s.callSelectSubsong n
  | .setMute v on => .next { s with ctl := { s.ctl with mute := s.ctl.mute.set v on } }
  | .setGain g => .next { s with ctl := { s.ctl with gain := g } }
  | .setLoopDetectionDisabled off => .next { s with ctl := { s.ctl with loopDetectionDisabled := off } }
  | .bindCallback bound => .next { s with ctl := { s.ctl with callbackBound := bound } }

/-- Between host calls: the next call begins, or the machine waits for the host (00 R8, 20 R78; log 7). -/
def State.idleStep (s : State) : Result :=
  match s.calls with
  | [] => .next s
  | c :: rest => ({ s with calls := rest } : State).beginCall c

/-- The next sub-step of the machine, by where it stands (00 R8; log 8). -/
def State.subStep (s : State) : Result :=
  match s.task with
  | .idle => s.idleStep
  | .burst caller spIn used => s.burstStep caller spIn used
  | .burstDone caller _ => .next (s.afterBurst caller)
  | .frame left => .next (s.frameStep left)
  | .sample left => .next (s.sampleStep left)

/-- The state in which the very next step fetches and runs the instruction of the bytes `b0 b1 b2`: they stand at `PC`, the
burst loop runs with nothing used of its budget, the budget allows a step, `PC` is not the sentinel, and SUPPORTED does
not leave the opcode out (log 10). -/
def State.placeForFetch (s : State) (b0 b1 b2 : Byte) : State :=
  let pc : Word := if s.pc = s.params.sentinelPC then s.pc + 1 else s.pc
  { ((s.poke pc b0).poke (pc + 1) b1).poke (pc + 2) b2 with
    pc := pc
    params :=
      { s.params with
        dropped := s.params.dropped.filter fun op => decide (op ≠ b0)
        maxCycles := s.params.maxCycles + 1 }
    task := .burst .init s.sp 0 }

end Sys2Proof.Machine
end

