-- ==== Sys2Proof/Machine/Step.lean ====
section
/-! DEFINITION. The machine's step, and the state that makes it run a given instruction. -/

namespace Sys2Proof.Machine

/-- One step of the machine (00 R8): one sub-step of the host call in progress, or the next call's beginning. Inside a
burst it is one turn of the loop of 49 R339, which executes one instruction. -/
def step (s : State) : Host.Outcome State Fault Refusal := s.subStep

/-- `s` with the instruction whose bits are `w` where `step` fetches its next instruction (log 9, log 10). -/
def State.withFetchWord (s : State) (nbits w : Nat) : State :=
  let bytes := tableBytes nbits w
  s.placeForFetch (bytes.getD 0 0) (bytes.getD 1 0) (bytes.getD 2 0)

end Sys2Proof.Machine
end

