-- ==== Sys2Proof/Machine/Queries.lean ====
section
/-! DEFINITION. The read-only queries of the control surface (49 R355, 46 R253). Being functions of the state, they change
nothing; the text they are rendered in is outside the spec. -/

namespace Sys2Proof.Machine

/-- "get-time-elapsed" (49 R355). -/
def State.timeElapsed (s : State) : Number := s.play.elapsedMs

/-- A fixed-width string up to its first 0x00 (49 R355, 70 R416). -/
def textOf (field : Vector Byte 32) : List Byte := field.toList.takeWhile fun b => decide (b ≠ 0x00)

/-- "get-metadata strings": title, author, released (49 R355). -/
def State.metadata (s : State) : List Byte × List Byte × List Byte :=
  (textOf s.song.title, textOf s.song.author, textOf s.song.released)

/-- What the diagnostic state-dump shows: `shadow`, `prev_gate`, `base_freq` (46 R253, 49 R355). -/
def State.dump (s : State) : RegisterCache := s.cache

end Sys2Proof.Machine
end

