-- ==== Sys2Proof/Table.lean ====
section
/-! DEFINITION. The columns of the opcode table of 30_encoding.md rule R95, as statements about the machine use them: the
mnemonic, the operand with its addressing mode, the base cycle count and the `+p` mark of each row; and the formula of
rule R99 for the length of an unsupported opcode. The machine does not use this file. -/

namespace Sys2Proof

/-- The 56 mnemonics of 30 R95, and one name for the 105 unsupported opcodes of 30 R97. -/
inductive Mnemonic
  | adc
  | and
  | asl
  | bcc
  | bcs
  | beq
  | bit
  | bmi
  | bne
  | bpl
  | brk
  | bvc
  | bvs
  | clc
  | cld
  | cli
  | clv
  | cmp
  | cpx
  | cpy
  | dec
  | dex
  | dey
  | eor
  | inc
  | inx
  | iny
  | jmp
  | jsr
  | lda
  | ldx
  | ldy
  | lsr
  | nop
  | ora
  | pha
  | php
  | pla
  | plp
  | rol
  | ror
  | rti
  | rts
  | sbc
  | sec
  | sed
  | sei
  | sta
  | stx
  | sty
  | tax
  | tay
  | tsx
  | txa
  | txs
  | tya
  | unsupported
  deriving DecidableEq, Repr

/-- The 13 addressing modes with their operand (30 R102 to R114), and none for an unsupported opcode (45 R222). -/
inductive Operand
  | imp
  | acc
  | imm (m : Byte)
  | zp (b : Byte)
  | zpx (b : Byte)
  | zpy (b : Byte)
  | izx (b : Byte)
  | izy (b : Byte)
  | rel (off : Byte)
  | abs (addr : Word)
  | abx (base : Word)
  | aby (base : Word)
  | ind (ptr : Word)
  | unread
  deriving DecidableEq, Repr

/-- The mnemonic column (30 R95). -/
def Instr.mnemonic : Instr → Mnemonic
  | .brk => .brk
  | .oraIzx _ => .ora
  | .unsup02 => .unsupported
  | .unsup03 => .unsupported
  | .unsup04 => .unsupported
  | .oraZp _ => .ora
  | .aslZp _ => .asl
  | .unsup07 => .unsupported
  | .php => .php
  | .oraImm _ => .ora
  | .aslAcc => .asl
  | .unsup0B => .unsupported
  | .unsup0C => .unsupported
  | .oraAbs _ => .ora
  | .aslAbs _ => .asl
  | .unsup0F => .unsupported
  | .bpl _ => .bpl
  | .oraIzy _ => .ora
  | .unsup12 => .unsupported
  | .unsup13 => .unsupported
  | .unsup14 => .unsupported
  | .oraZpx _ => .ora
  | .aslZpx _ => .asl
  | .unsup17 => .unsupported
  | .clc => .clc
  | .oraAby _ => .ora
  | .unsup1A => .unsupported
  | .unsup1B => .unsupported
  | .unsup1C => .unsupported
  | .oraAbx _ => .ora
  | .aslAbx _ => .asl
  | .unsup1F => .unsupported
  | .jsr _ => .jsr
  | .andIzx _ => .and
  | .unsup22 => .unsupported
  | .unsup23 => .unsupported
  | .bitZp _ => .bit
  | .andZp _ => .and
  | .rolZp _ => .rol
  | .unsup27 => .unsupported
  | .plp => .plp
  | .andImm _ => .and
  | .rolAcc => .rol
  | .unsup2B => .unsupported
  | .bitAbs _ => .bit
  | .andAbs _ => .and
  | .rolAbs _ => .rol
  | .unsup2F => .unsupported
  | .bmi _ => .bmi
  | .andIzy _ => .and
  | .unsup32 => .unsupported
  | .unsup33 => .unsupported
  | .unsup34 => .unsupported
  | .andZpx _ => .and
  | .rolZpx _ => .rol
  | .unsup37 => .unsupported
  | .sec => .sec
  | .andAby _ => .and
  | .unsup3A => .unsupported
  | .unsup3B => .unsupported
  | .unsup3C => .unsupported
  | .andAbx _ => .and
  | .rolAbx _ => .rol
  | .unsup3F => .unsupported
  | .rti => .rti
  | .eorIzx _ => .eor
  | .unsup42 => .unsupported
  | .unsup43 => .unsupported
  | .unsup44 => .unsupported
  | .eorZp _ => .eor
  | .lsrZp _ => .lsr
  | .unsup47 => .unsupported
  | .pha => .pha
  | .eorImm _ => .eor
  | .lsrAcc => .lsr
  | .unsup4B => .unsupported
  | .jmpAbs _ => .jmp
  | .eorAbs _ => .eor
  | .lsrAbs _ => .lsr
  | .unsup4F => .unsupported
  | .bvc _ => .bvc
  | .eorIzy _ => .eor
  | .unsup52 => .unsupported
  | .unsup53 => .unsupported
  | .unsup54 => .unsupported
  | .eorZpx _ => .eor
  | .lsrZpx _ => .lsr
  | .unsup57 => .unsupported
  | .cli => .cli
  | .eorAby _ => .eor
  | .unsup5A => .unsupported
  | .unsup5B => .unsupported
  | .unsup5C => .unsupported
  | .eorAbx _ => .eor
  | .lsrAbx _ => .lsr
  | .unsup5F => .unsupported
  | .rts => .rts
  | .adcIzx _ => .adc
  | .unsup62 => .unsupported
  | .unsup63 => .unsupported
  | .unsup64 => .unsupported
  | .adcZp _ => .adc
  | .rorZp _ => .ror
  | .unsup67 => .unsupported
  | .pla => .pla
  | .adcImm _ => .adc
  | .rorAcc => .ror
  | .unsup6B => .unsupported
  | .jmpInd _ => .jmp
  | .adcAbs _ => .adc
  | .rorAbs _ => .ror
  | .unsup6F => .unsupported
  | .bvs _ => .bvs
  | .adcIzy _ => .adc
  | .unsup72 => .unsupported
  | .unsup73 => .unsupported
  | .unsup74 => .unsupported
  | .adcZpx _ => .adc
  | .rorZpx _ => .ror
  | .unsup77 => .unsupported
  | .sei => .sei
  | .adcAby _ => .adc
  | .unsup7A => .unsupported
  | .unsup7B => .unsupported
  | .unsup7C => .unsupported
  | .adcAbx _ => .adc
  | .rorAbx _ => .ror
  | .unsup7F => .unsupported
  | .unsup80 => .unsupported
  | .staIzx _ => .sta
  | .unsup82 => .unsupported
  | .unsup83 => .unsupported
  | .styZp _ => .sty
  | .staZp _ => .sta
  | .stxZp _ => .stx
  | .unsup87 => .unsupported
  | .dey => .dey
  | .unsup89 => .unsupported
  | .txa => .txa
  | .unsup8B => .unsupported
  | .styAbs _ => .sty
  | .staAbs _ => .sta
  | .stxAbs _ => .stx
  | .unsup8F => .unsupported
  | .bcc _ => .bcc
  | .staIzy _ => .sta
  | .unsup92 => .unsupported
  | .unsup93 => .unsupported
  | .styZpx _ => .sty
  | .staZpx _ => .sta
  | .stxZpy _ => .stx
  | .unsup97 => .unsupported
  | .tya => .tya
  | .staAby _ => .sta
  | .txs => .txs
  | .unsup9B => .unsupported
  | .unsup9C => .unsupported
  | .staAbx _ => .sta
  | .unsup9E => .unsupported
  | .unsup9F => .unsupported
  | .ldyImm _ => .ldy
  | .ldaIzx _ => .lda
  | .ldxImm _ => .ldx
  | .unsupA3 => .unsupported
  | .ldyZp _ => .ldy
  | .ldaZp _ => .lda
  | .ldxZp _ => .ldx
  | .unsupA7 => .unsupported
  | .tay => .tay
  | .ldaImm _ => .lda
  | .tax => .tax
  | .unsupAB => .unsupported
  | .ldyAbs _ => .ldy
  | .ldaAbs _ => .lda
  | .ldxAbs _ => .ldx
  | .unsupAF => .unsupported
  | .bcs _ => .bcs
  | .ldaIzy _ => .lda
  | .unsupB2 => .unsupported
  | .unsupB3 => .unsupported
  | .ldyZpx _ => .ldy
  | .ldaZpx _ => .lda
  | .ldxZpy _ => .ldx
  | .unsupB7 => .unsupported
  | .clv => .clv
  | .ldaAby _ => .lda
  | .tsx => .tsx
  | .unsupBB => .unsupported
  | .ldyAbx _ => .ldy
  | .ldaAbx _ => .lda
  | .ldxAby _ => .ldx
  | .unsupBF => .unsupported
  | .cpyImm _ => .cpy
  | .cmpIzx _ => .cmp
  | .unsupC2 => .unsupported
  | .unsupC3 => .unsupported
  | .cpyZp _ => .cpy
  | .cmpZp _ => .cmp
  | .decZp _ => .dec
  | .unsupC7 => .unsupported
  | .iny => .iny
  | .cmpImm _ => .cmp
  | .dex => .dex
  | .unsupCB => .unsupported
  | .cpyAbs _ => .cpy
  | .cmpAbs _ => .cmp
  | .decAbs _ => .dec
  | .unsupCF => .unsupported
  | .bne _ => .bne
  | .cmpIzy _ => .cmp
  | .unsupD2 => .unsupported
  | .unsupD3 => .unsupported
  | .unsupD4 => .unsupported
  | .cmpZpx _ => .cmp
  | .decZpx _ => .dec
  | .unsupD7 => .unsupported
  | .cld => .cld
  | .cmpAby _ => .cmp
  | .unsupDA => .unsupported
  | .unsupDB => .unsupported
  | .unsupDC => .unsupported
  | .cmpAbx _ => .cmp
  | .decAbx _ => .dec
  | .unsupDF => .unsupported
  | .cpxImm _ => .cpx
  | .sbcIzx _ => .sbc
  | .unsupE2 => .unsupported
  | .unsupE3 => .unsupported
  | .cpxZp _ => .cpx
  | .sbcZp _ => .sbc
  | .incZp _ => .inc
  | .unsupE7 => .unsupported
  | .inx => .inx
  | .sbcImm _ => .sbc
  | .nop => .nop
  | .unsupEB => .unsupported
  | .cpxAbs _ => .cpx
  | .sbcAbs _ => .sbc
  | .incAbs _ => .inc
  | .unsupEF => .unsupported
  | .beq _ => .beq
  | .sbcIzy _ => .sbc
  | .unsupF2 => .unsupported
  | .unsupF3 => .unsupported
  | .unsupF4 => .unsupported
  | .sbcZpx _ => .sbc
  | .incZpx _ => .inc
  | .unsupF7 => .unsupported
  | .sed => .sed
  | .sbcAby _ => .sbc
  | .unsupFA => .unsupported
  | .unsupFB => .unsupported
  | .unsupFC => .unsupported
  | .sbcAbx _ => .sbc
  | .incAbx _ => .inc
  | .unsupFF => .unsupported

/-- The mode column, with the operand (30 R95). -/
def Instr.operand : Instr → Operand
  | .brk => .imp
  | .oraIzx zp => .izx zp
  | .unsup02 => .unread
  | .unsup03 => .unread
  | .unsup04 => .unread
  | .oraZp zp => .zp zp
  | .aslZp zp => .zp zp
  | .unsup07 => .unread
  | .php => .imp
  | .oraImm m => .imm m
  | .aslAcc => .acc
  | .unsup0B => .unread
  | .unsup0C => .unread
  | .oraAbs addr => .abs addr
  | .aslAbs addr => .abs addr
  | .unsup0F => .unread
  | .bpl off => .rel off
  | .oraIzy zp => .izy zp
  | .unsup12 => .unread
  | .unsup13 => .unread
  | .unsup14 => .unread
  | .oraZpx zp => .zpx zp
  | .aslZpx zp => .zpx zp
  | .unsup17 => .unread
  | .clc => .imp
  | .oraAby base => .aby base
  | .unsup1A => .unread
  | .unsup1B => .unread
  | .unsup1C => .unread
  | .oraAbx base => .abx base
  | .aslAbx base => .abx base
  | .unsup1F => .unread
  | .jsr addr => .abs addr
  | .andIzx zp => .izx zp
  | .unsup22 => .unread
  | .unsup23 => .unread
  | .bitZp zp => .zp zp
  | .andZp zp => .zp zp
  | .rolZp zp => .zp zp
  | .unsup27 => .unread
  | .plp => .imp
  | .andImm m => .imm m
  | .rolAcc => .acc
  | .unsup2B => .unread
  | .bitAbs addr => .abs addr
  | .andAbs addr => .abs addr
  | .rolAbs addr => .abs addr
  | .unsup2F => .unread
  | .bmi off => .rel off
  | .andIzy zp => .izy zp
  | .unsup32 => .unread
  | .unsup33 => .unread
  | .unsup34 => .unread
  | .andZpx zp => .zpx zp
  | .rolZpx zp => .zpx zp
  | .unsup37 => .unread
  | .sec => .imp
  | .andAby base => .aby base
  | .unsup3A => .unread
  | .unsup3B => .unread
  | .unsup3C => .unread
  | .andAbx base => .abx base
  | .rolAbx base => .abx base
  | .unsup3F => .unread
  | .rti => .imp
  | .eorIzx zp => .izx zp
  | .unsup42 => .unread
  | .unsup43 => .unread
  | .unsup44 => .unread
  | .eorZp zp => .zp zp
  | .lsrZp zp => .zp zp
  | .unsup47 => .unread
  | .pha => .imp
  | .eorImm m => .imm m
  | .lsrAcc => .acc
  | .unsup4B => .unread
  | .jmpAbs addr => .abs addr
  | .eorAbs addr => .abs addr
  | .lsrAbs addr => .abs addr
  | .unsup4F => .unread
  | .bvc off => .rel off
  | .eorIzy zp => .izy zp
  | .unsup52 => .unread
  | .unsup53 => .unread
  | .unsup54 => .unread
  | .eorZpx zp => .zpx zp
  | .lsrZpx zp => .zpx zp
  | .unsup57 => .unread
  | .cli => .imp
  | .eorAby base => .aby base
  | .unsup5A => .unread
  | .unsup5B => .unread
  | .unsup5C => .unread
  | .eorAbx base => .abx base
  | .lsrAbx base => .abx base
  | .unsup5F => .unread
  | .rts => .imp
  | .adcIzx zp => .izx zp
  | .unsup62 => .unread
  | .unsup63 => .unread
  | .unsup64 => .unread
  | .adcZp zp => .zp zp
  | .rorZp zp => .zp zp
  | .unsup67 => .unread
  | .pla => .imp
  | .adcImm m => .imm m
  | .rorAcc => .acc
  | .unsup6B => .unread
  | .jmpInd ptr => .ind ptr
  | .adcAbs addr => .abs addr
  | .rorAbs addr => .abs addr
  | .unsup6F => .unread
  | .bvs off => .rel off
  | .adcIzy zp => .izy zp
  | .unsup72 => .unread
  | .unsup73 => .unread
  | .unsup74 => .unread
  | .adcZpx zp => .zpx zp
  | .rorZpx zp => .zpx zp
  | .unsup77 => .unread
  | .sei => .imp
  | .adcAby base => .aby base
  | .unsup7A => .unread
  | .unsup7B => .unread
  | .unsup7C => .unread
  | .adcAbx base => .abx base
  | .rorAbx base => .abx base
  | .unsup7F => .unread
  | .unsup80 => .unread
  | .staIzx zp => .izx zp
  | .unsup82 => .unread
  | .unsup83 => .unread
  | .styZp zp => .zp zp
  | .staZp zp => .zp zp
  | .stxZp zp => .zp zp
  | .unsup87 => .unread
  | .dey => .imp
  | .unsup89 => .unread
  | .txa => .imp
  | .unsup8B => .unread
  | .styAbs addr => .abs addr
  | .staAbs addr => .abs addr
  | .stxAbs addr => .abs addr
  | .unsup8F => .unread
  | .bcc off => .rel off
  | .staIzy zp => .izy zp
  | .unsup92 => .unread
  | .unsup93 => .unread
  | .styZpx zp => .zpx zp
  | .staZpx zp => .zpx zp
  | .stxZpy zp => .zpy zp
  | .unsup97 => .unread
  | .tya => .imp
  | .staAby base => .aby base
  | .txs => .imp
  | .unsup9B => .unread
  | .unsup9C => .unread
  | .staAbx base => .abx base
  | .unsup9E => .unread
  | .unsup9F => .unread
  | .ldyImm m => .imm m
  | .ldaIzx zp => .izx zp
  | .ldxImm m => .imm m
  | .unsupA3 => .unread
  | .ldyZp zp => .zp zp
  | .ldaZp zp => .zp zp
  | .ldxZp zp => .zp zp
  | .unsupA7 => .unread
  | .tay => .imp
  | .ldaImm m => .imm m
  | .tax => .imp
  | .unsupAB => .unread
  | .ldyAbs addr => .abs addr
  | .ldaAbs addr => .abs addr
  | .ldxAbs addr => .abs addr
  | .unsupAF => .unread
  | .bcs off => .rel off
  | .ldaIzy zp => .izy zp
  | .unsupB2 => .unread
  | .unsupB3 => .unread
  | .ldyZpx zp => .zpx zp
  | .ldaZpx zp => .zpx zp
  | .ldxZpy zp => .zpy zp
  | .unsupB7 => .unread
  | .clv => .imp
  | .ldaAby base => .aby base
  | .tsx => .imp
  | .unsupBB => .unread
  | .ldyAbx base => .abx base
  | .ldaAbx base => .abx base
  | .ldxAby base => .aby base
  | .unsupBF => .unread
  | .cpyImm m => .imm m
  | .cmpIzx zp => .izx zp
  | .unsupC2 => .unread
  | .unsupC3 => .unread
  | .cpyZp zp => .zp zp
  | .cmpZp zp => .zp zp
  | .decZp zp => .zp zp
  | .unsupC7 => .unread
  | .iny => .imp
  | .cmpImm m => .imm m
  | .dex => .imp
  | .unsupCB => .unread
  | .cpyAbs addr => .abs addr
  | .cmpAbs addr => .abs addr
  | .decAbs addr => .abs addr
  | .unsupCF => .unread
  | .bne off => .rel off
  | .cmpIzy zp => .izy zp
  | .unsupD2 => .unread
  | .unsupD3 => .unread
  | .unsupD4 => .unread
  | .cmpZpx zp => .zpx zp
  | .decZpx zp => .zpx zp
  | .unsupD7 => .unread
  | .cld => .imp
  | .cmpAby base => .aby base
  | .unsupDA => .unread
  | .unsupDB => .unread
  | .unsupDC => .unread
  | .cmpAbx base => .abx base
  | .decAbx base => .abx base
  | .unsupDF => .unread
  | .cpxImm m => .imm m
  | .sbcIzx zp => .izx zp
  | .unsupE2 => .unread
  | .unsupE3 => .unread
  | .cpxZp zp => .zp zp
  | .sbcZp zp => .zp zp
  | .incZp zp => .zp zp
  | .unsupE7 => .unread
  | .inx => .imp
  | .sbcImm m => .imm m
  | .nop => .imp
  | .unsupEB => .unread
  | .cpxAbs addr => .abs addr
  | .sbcAbs addr => .abs addr
  | .incAbs addr => .abs addr
  | .unsupEF => .unread
  | .beq off => .rel off
  | .sbcIzy zp => .izy zp
  | .unsupF2 => .unread
  | .unsupF3 => .unread
  | .unsupF4 => .unread
  | .sbcZpx zp => .zpx zp
  | .incZpx zp => .zpx zp
  | .unsupF7 => .unread
  | .sed => .imp
  | .sbcAby base => .aby base
  | .unsupFA => .unread
  | .unsupFB => .unread
  | .unsupFC => .unread
  | .sbcAbx base => .abx base
  | .incAbx base => .abx base
  | .unsupFF => .unread

/-- The `cyc` column of 30 R95 by opcode byte; 0 stands at the unsupported bytes, which the column does not have. -/
def cycleColumn : List Nat :=
  [7, 6, 0, 0, 0, 3, 5, 0, 3, 2, 2, 0, 0, 4, 6, 0] ++
  [2, 5, 0, 0, 0, 4, 6, 0, 2, 4, 0, 0, 0, 4, 7, 0] ++
  [6, 6, 0, 0, 3, 3, 5, 0, 4, 2, 2, 0, 4, 4, 6, 0] ++
  [2, 5, 0, 0, 0, 4, 6, 0, 2, 4, 0, 0, 0, 4, 7, 0] ++
  [6, 6, 0, 0, 0, 3, 5, 0, 3, 2, 2, 0, 3, 4, 6, 0] ++
  [2, 5, 0, 0, 0, 4, 6, 0, 2, 4, 0, 0, 0, 4, 7, 0] ++
  [6, 6, 0, 0, 0, 3, 5, 0, 4, 2, 2, 0, 5, 4, 6, 0] ++
  [2, 5, 0, 0, 0, 4, 6, 0, 2, 4, 0, 0, 0, 4, 7, 0] ++
  [0, 6, 0, 0, 3, 3, 3, 0, 2, 0, 2, 0, 4, 4, 4, 0] ++
  [2, 6, 0, 0, 4, 4, 4, 0, 2, 5, 2, 0, 0, 5, 0, 0] ++
  [2, 6, 2, 0, 3, 3, 3, 0, 2, 2, 2, 0, 4, 4, 4, 0] ++
  [2, 5, 0, 0, 4, 4, 4, 0, 2, 4, 2, 0, 4, 4, 4, 0] ++
  [2, 6, 0, 0, 3, 3, 5, 0, 2, 2, 2, 0, 4, 4, 6, 0] ++
  [2, 5, 0, 0, 0, 4, 6, 0, 2, 4, 0, 0, 0, 4, 7, 0] ++
  [2, 6, 0, 0, 3, 3, 5, 0, 2, 2, 2, 0, 4, 4, 6, 0] ++
  [2, 5, 0, 0, 0, 4, 6, 0, 2, 4, 0, 0, 0, 4, 7, 0]

/-- The opcode bytes whose `+p` column is 1 (30 R95). -/
def pageRows : List Byte :=
  [0x11, 0x19, 0x1D, 0x31, 0x39, 0x3D, 0x51, 0x59, 0x5D, 0x71, 0x79, 0x7D] ++
  [0xB1, 0xB9, 0xBC, 0xBD, 0xBE, 0xD1, 0xD9, 0xDD, 0xF1, 0xF9, 0xFD]

/-- UNSUP_LEN by the formula of 30 R99, with `lo = op[3:0]` and `hi = op[7:4]`; 0 at the bytes it does not speak of. -/
def guessedLength (op : Byte) : Nat :=
  let lo := op.toNat % 16
  let hi := op.toNat / 16
  if op = 0x80 ∨ op = 0x89 then 2
  else if lo = 2 then (if op = 0x82 ∨ op = 0xC2 ∨ op = 0xE2 then 2 else 1)
  else if lo = 3 ∨ lo = 4 ∨ lo = 7 then 2
  else if lo = 0xA then 1
  else if lo = 0xB then (if hi % 2 = 0 then 2 else 3)
  else if lo = 0xC ∨ lo = 0xE ∨ lo = 0xF then 3
  else 0

/-- The 105 unsupported rows: the opcode byte and the instruction (30 R97, R99). -/
def unsupportedRows : List (Byte × Instr) :=
  [(0x02#8, Instr.unsup02), (0x03#8, Instr.unsup03), (0x04#8, Instr.unsup04), (0x07#8, Instr.unsup07)] ++
  [(0x0B#8, Instr.unsup0B), (0x0C#8, Instr.unsup0C), (0x0F#8, Instr.unsup0F), (0x12#8, Instr.unsup12)] ++
  [(0x13#8, Instr.unsup13), (0x14#8, Instr.unsup14), (0x17#8, Instr.unsup17), (0x1A#8, Instr.unsup1A)] ++
  [(0x1B#8, Instr.unsup1B), (0x1C#8, Instr.unsup1C), (0x1F#8, Instr.unsup1F), (0x22#8, Instr.unsup22)] ++
  [(0x23#8, Instr.unsup23), (0x27#8, Instr.unsup27), (0x2B#8, Instr.unsup2B), (0x2F#8, Instr.unsup2F)] ++
  [(0x32#8, Instr.unsup32), (0x33#8, Instr.unsup33), (0x34#8, Instr.unsup34), (0x37#8, Instr.unsup37)] ++
  [(0x3A#8, Instr.unsup3A), (0x3B#8, Instr.unsup3B), (0x3C#8, Instr.unsup3C), (0x3F#8, Instr.unsup3F)] ++
  [(0x42#8, Instr.unsup42), (0x43#8, Instr.unsup43), (0x44#8, Instr.unsup44), (0x47#8, Instr.unsup47)] ++
  [(0x4B#8, Instr.unsup4B), (0x4F#8, Instr.unsup4F), (0x52#8, Instr.unsup52), (0x53#8, Instr.unsup53)] ++
  [(0x54#8, Instr.unsup54), (0x57#8, Instr.unsup57), (0x5A#8, Instr.unsup5A), (0x5B#8, Instr.unsup5B)] ++
  [(0x5C#8, Instr.unsup5C), (0x5F#8, Instr.unsup5F), (0x62#8, Instr.unsup62), (0x63#8, Instr.unsup63)] ++
  [(0x64#8, Instr.unsup64), (0x67#8, Instr.unsup67), (0x6B#8, Instr.unsup6B), (0x6F#8, Instr.unsup6F)] ++
  [(0x72#8, Instr.unsup72), (0x73#8, Instr.unsup73), (0x74#8, Instr.unsup74), (0x77#8, Instr.unsup77)] ++
  [(0x7A#8, Instr.unsup7A), (0x7B#8, Instr.unsup7B), (0x7C#8, Instr.unsup7C), (0x7F#8, Instr.unsup7F)] ++
  [(0x80#8, Instr.unsup80), (0x82#8, Instr.unsup82), (0x83#8, Instr.unsup83), (0x87#8, Instr.unsup87)] ++
  [(0x89#8, Instr.unsup89), (0x8B#8, Instr.unsup8B), (0x8F#8, Instr.unsup8F), (0x92#8, Instr.unsup92)] ++
  [(0x93#8, Instr.unsup93), (0x97#8, Instr.unsup97), (0x9B#8, Instr.unsup9B), (0x9C#8, Instr.unsup9C)] ++
  [(0x9E#8, Instr.unsup9E), (0x9F#8, Instr.unsup9F), (0xA3#8, Instr.unsupA3), (0xA7#8, Instr.unsupA7)] ++
  [(0xAB#8, Instr.unsupAB), (0xAF#8, Instr.unsupAF), (0xB2#8, Instr.unsupB2), (0xB3#8, Instr.unsupB3)] ++
  [(0xB7#8, Instr.unsupB7), (0xBB#8, Instr.unsupBB), (0xBF#8, Instr.unsupBF), (0xC2#8, Instr.unsupC2)] ++
  [(0xC3#8, Instr.unsupC3), (0xC7#8, Instr.unsupC7), (0xCB#8, Instr.unsupCB), (0xCF#8, Instr.unsupCF)] ++
  [(0xD2#8, Instr.unsupD2), (0xD3#8, Instr.unsupD3), (0xD4#8, Instr.unsupD4), (0xD7#8, Instr.unsupD7)] ++
  [(0xDA#8, Instr.unsupDA), (0xDB#8, Instr.unsupDB), (0xDC#8, Instr.unsupDC), (0xDF#8, Instr.unsupDF)] ++
  [(0xE2#8, Instr.unsupE2), (0xE3#8, Instr.unsupE3), (0xE7#8, Instr.unsupE7), (0xEB#8, Instr.unsupEB)] ++
  [(0xEF#8, Instr.unsupEF), (0xF2#8, Instr.unsupF2), (0xF3#8, Instr.unsupF3), (0xF4#8, Instr.unsupF4)] ++
  [(0xF7#8, Instr.unsupF7), (0xFA#8, Instr.unsupFA), (0xFB#8, Instr.unsupFB), (0xFC#8, Instr.unsupFC)] ++
  [(0xFF#8, Instr.unsupFF)]

end Sys2Proof
end

