-- ==== Sys2Proof/Safety.lean ====
section
/-! DEFINITION. The terms in which claims about the machine are stated: the flag rules bit by bit, what an instruction
answers, where it stores, the invariants, and what of the numbers of the engine and the scheduler they speak of. -/

namespace Sys2Proof.Machine

/-- Outside the bits of `mask`, the status `q` is the status `p`. -/
def KeepsBits (mask p q : Byte) : Prop := q &&& ~~~mask = p &&& ~~~mask

/-- `SetNZ(v)` from status `p` to status `q` (00 R12). -/
def SetsNZ (v p q : Byte) : Prop := flagN q = v.getLsbD 7 ∧ flagZ q = decide (v = 0) ∧ KeepsBits 0x82 p q

/-- ADC of `m` to `a`: the result `r` and the status `q` (42 R151). -/
def AddsWithCarry (a m p r q : Byte) : Prop :=
  r.toNat = (a.toNat + m.toNat + (flagC p).toNat) % 256 ∧
    flagC q = decide (256 ≤ a.toNat + m.toNat + (flagC p).toNat) ∧
    flagV q = (~~~(a ^^^ m) &&& (a ^^^ r)).getLsbD 7 ∧
    flagN q = r.getLsbD 7 ∧ flagZ q = decide (r = 0) ∧ KeepsBits 0xC3 p q

/-- SBC of `m` from `a`: the result `r` and the status `q` (42 R152). -/
def SubtractsWithBorrow (a m p r q : Byte) : Prop :=
  r.toNat = (a.toNat + 256 - (m.toNat + (1 - (flagC p).toNat))) % 256 ∧
    flagC q = decide (m.toNat + (1 - (flagC p).toNat) ≤ a.toNat) ∧
    flagV q = (~~~(a ^^^ (m ^^^ 0xFF)) &&& (a ^^^ r)).getLsbD 7 ∧
    flagN q = r.getLsbD 7 ∧ flagZ q = decide (r = 0) ∧ KeepsBits 0xC3 p q

/-- The status after comparing the register value `r` with `m` (42 R153). -/
def Compares (r m p q : Byte) : Prop :=
  flagC q = decide (m.toNat ≤ r.toNat) ∧ flagZ q = decide (r = m) ∧ flagN q = (r - m).getLsbD 7 ∧ KeepsBits 0x83 p q

/-- The status after BIT of `m` with `a` (43 R173). -/
def TestsBits (a m p q : Byte) : Prop :=
  flagZ q = decide (a &&& m = 0) ∧ flagN q = m.getLsbD 7 ∧ flagV q = m.getLsbD 6 ∧ KeepsBits 0xC2 p q

/-- The status after a shift with result `r` that moved the bit `out` out (43 R174 to R177). -/
def Shifts (r : Byte) (out : Bool) (p q : Byte) : Prop :=
  flagC q = out ∧ flagN q = r.getLsbD 7 ∧ flagZ q = decide (r = 0) ∧ KeepsBits 0x83 p q

/-- The status with the flag `flag`, the bit of `mask`, at `b` and every other bit kept (45 R210 to R216). -/
def WritesFlag (flag : Byte → Bool) (mask : Byte) (b : Bool) (p q : Byte) : Prop := flag q = b ∧ KeepsBits mask p q

/-- The instruction is encoded as the opcode byte `op` and `operands`, CYCLES at its default gives `op` `base` cycles, and
`exec` answers the next state that is `t` but for the status `q` that `rule` allows, the program counter past those bytes,
and the cycle count: what CYCLES gives `op`, and `extra`. -/
def Answers (s : State) (i : Instr) (op : Byte) (operands : List Byte) (base extra : Nat) (rule : Byte → Byte → Prop)
    (t : State) : Prop :=
  encode s.params.unsupLen i = op :: operands ∧ defaultCycles.entry op = base ∧
    ∃ q, rule s.p q ∧
      exec i s = .next
        { t with
          p := q
          pc := s.pc + BitVec.ofNat 16 (operands.length + 1)
          cycles := s.params.cycles.entry op + extra }

/-- As `Answers`, for ADC and SBC: `A` and the status are the `r` and `q` that `rule` allows. -/
def AnswersSum (s : State) (i : Instr) (op : Byte) (operands : List Byte) (base extra : Nat)
    (rule : Byte → Byte → Byte → Prop) : Prop :=
  encode s.params.unsupLen i = op :: operands ∧ defaultCycles.entry op = base ∧
    ∃ r q, rule s.p r q ∧
      exec i s = .next
        { s with
          a := r
          p := q
          pc := s.pc + BitVec.ofNat 16 (operands.length + 1)
          cycles := s.params.cycles.entry op + extra }

/-- The status stays. -/
def KeepsStatus (p q : Byte) : Prop := q = p

/-- The branch with opcode byte `op` and offset `off` answers the next state of 44 R190; CYCLES at its default gives it 2
base cycles. -/
def AnswersBranch (s : State) (i : Instr) (op off : Byte) (taken : Bool) : Prop :=
  encode s.params.unsupLen i = [op, off] ∧ defaultCycles.entry op = 2 ∧
    exec i s = .next
      { s with
        pc := if taken then s.pc + 2 + sext16 off else s.pc + 2
        cycles :=
          s.params.cycles.entry op +
            if taken then
              (if s.params.pagePenalty = true ∧ hiByte (s.pc + 2 + sext16 off) ≠ hiByte (s.pc + 2) then 2 else 1)
            else 0 }

/-- The effective address of an operand in memory (30 R102 to R114). -/
def addressOf (s : State) : Operand → Option Word
  | .zp b => some (zpAddr b)
  | .zpx b => some (s.zpxAddr b)
  | .zpy b => some (s.zpyAddr b)
  | .izx b => some (s.izxAddr b)
  | .izy b => some (s.izyAddr b)
  | .abs addr => some addr
  | .abx base => some (s.abxAddr base)
  | .aby base => some (s.abyAddr base)
  | .ind ptr => some (s.indTarget ptr)
  | .imp => none
  | .acc => none
  | .imm _ => none
  | .rel _ => none
  | .unread => none

/-- Whether a branch's condition holds (44 R191 to R198). -/
def branchTaken (i : Instr) (p : Byte) : Bool :=
  match i.mnemonic with
  | .bcc => !flagC p
  | .bcs => flagC p
  | .bne => !flagZ p
  | .beq => flagZ p
  | .bpl => !flagN p
  | .bmi => flagN p
  | .bvc => !flagV p
  | .bvs => flagV p
  | .lda | .ldx | .ldy | .sta | .stx | .sty | .tax | .tay | .txa | .tya | .tsx | .txs | .pha | .php | .pla | .plp => false
  | .adc | .sbc | .cmp | .cpx | .cpy | .inc | .dec | .inx | .iny | .dex | .dey | .and | .ora | .eor | .bit => false
  | .asl | .lsr | .rol | .ror | .jmp | .jsr | .rts | .rti | .clc | .sec | .cli | .sei | .clv | .cld | .sed => false
  | .nop | .brk | .unsupported => false

/-- The cycles that 30 R101 adds to the base count: one for a page crossed by the index of a `+p` row, one for a branch
taken, and one more if it is taken to another page. -/
def extraCycles (i : Instr) (s : State) : Nat :=
  match i.operand with
  | .abx base => if pageRows.contains i.opcode then s.penalty base (s.abxAddr base) else 0
  | .aby base => if pageRows.contains i.opcode then s.penalty base (s.abyAddr base) else 0
  | .izy b => if pageRows.contains i.opcode then s.penalty (s.zpPointer b) (s.izyAddr b) else 0
  | .rel off => if branchTaken i s.p then 1 + s.penalty s.branchNext (s.branchTarget off) else 0
  | .imp | .acc | .imm _ | .zp _ | .zpx _ | .zpy _ | .izx _ | .abs _ | .ind _ | .unread => 0

/-- The addresses an instruction stores to: its effective address, or the stack bytes it pushes (20 R68). -/
def storedAt (i : Instr) (s : State) : List Word :=
  match i.mnemonic with
  | .sta | .stx | .sty | .inc | .dec | .asl | .lsr | .rol | .ror => (addressOf s i.operand).toList
  | .pha | .php => [s.stackAddr s.sp]
  | .jsr => [s.stackAddr s.sp, s.stackAddr (s.sp - 1)]
  | .brk => [s.stackAddr s.sp, s.stackAddr (s.sp - 1), s.stackAddr (s.sp - 2)]
  | .lda | .ldx | .ldy | .tax | .tay | .txa | .tya | .tsx | .txs | .pla | .plp | .adc | .sbc | .cmp | .cpx | .cpy => []
  | .inx | .iny | .dex | .dey | .and | .ora | .eor | .bit | .bcc | .bcs | .beq | .bmi | .bne | .bpl | .bvc | .bvs => []
  | .jmp | .rts | .rti | .clc | .sec | .cli | .sei | .clv | .cld | .sed | .nop | .unsupported => []

/-- The instructions that may write `A` (10 R21); a shift writes it in its accumulator form. -/
def writesA (i : Instr) : Prop :=
  i.mnemonic ∈ [Mnemonic.lda, .txa, .tya, .pla, .adc, .sbc, .and, .ora, .eor] ∨ i.operand = .acc

/-- The instructions that may write `X` (10 R22). -/
def writesX (i : Instr) : Prop := i.mnemonic ∈ [Mnemonic.ldx, .tax, .tsx, .inx, .dex]

/-- The instructions that may write `Y` (10 R23). -/
def writesY (i : Instr) : Prop := i.mnemonic ∈ [Mnemonic.ldy, .tay, .iny, .dey]

/-- The instructions that may write `SP` (10 R24). -/
def writesSP (i : Instr) : Prop := i.mnemonic ∈ [Mnemonic.txs, .pha, .php, .pla, .plp, .jsr, .rts, .rti, .brk]

/-- The writers of `N` (10 R27); those of `Z` are the same. -/
def writesNZ (i : Instr) : Prop :=
  i.mnemonic ∈
    [Mnemonic.adc, .sbc, .and, .ora, .eor, .asl, .lsr, .rol, .ror, .inc, .dec, .inx, .iny, .dex, .dey, .lda, .ldx, .ldy,
      .tax, .tay, .txa, .tya, .tsx, .pla, .cmp, .cpx, .cpy, .bit, .plp, .rti]

/-- The writers of `V` (10 R27). -/
def writesV (i : Instr) : Prop := i.mnemonic ∈ [Mnemonic.adc, .sbc, .bit, .clv, .plp, .rti]

/-- The writers of `D` (10 R27). -/
def writesD (i : Instr) : Prop := i.mnemonic ∈ [Mnemonic.sed, .cld, .plp, .rti]

/-- The writers of `I` (10 R27). -/
def writesI (i : Instr) : Prop := i.mnemonic ∈ [Mnemonic.sei, .cli, .brk, .plp, .rti]

/-- The writers of `C` (10 R27). -/
def writesC (i : Instr) : Prop :=
  i.mnemonic ∈ [Mnemonic.adc, .sbc, .cmp, .cpx, .cpy, .asl, .lsr, .rol, .ror, .sec, .clc, .plp, .rti]

/-- The part of the engine that moves only in `process_one_sample()` or with the sample rate (49 R340). -/
def EngineClockKept (e f : Engine) : Prop :=
  f.fs = e.fs ∧ f.low = e.low ∧ f.band = e.band ∧
    ∀ v, (f.voices.get v).phase = (e.voices.get v).phase ∧ (f.voices.get v).lfsr = (e.voices.get v).lfsr ∧
      (f.voices.get v).level = (e.voices.get v).level

/-- The live status: bit 5 is 1, bit 4 is 0 (10 R25). -/
def StatusOk (p : Byte) : Prop := p.getLsbD 5 = true ∧ p.getLsbD 4 = false

/-- The machine's invariant: memory and the shadow bytes beyond offset 31 in canonical form, the live status and RESET_P with bit 5 set and bit 4 clear. -/
def Inv (s : State) : Prop := s.mem.wf = true ∧ s.cache.more.wf = true ∧ StatusOk s.p ∧ s.params.statusOk = true

/-- A number that the domain holds as 0: over exact reals one that is 0. -/
def IsZero (num : NumDomain) (x : Number) : Prop :=
  match num with
  | .exact => x.toReal = 0
  | .rounding _ => x = .rat 0

/-- As `IsZero`, of a number of the filter. -/
def IsFilterZero (num : NumDomain) (x : FilterReal) : Prop :=
  match num with
  | .exact => x.toReal = 0
  | .rounding _ => x = FilterReal.zero

/-- The bounds of the engine's real-valued parameters (10 R37, R38), with what they rest on: exact reals, positive tables
and rates (00 R6, 47 R290, R303). -/
def EngineInv (s : State) : Prop :=
  s.params.num = .exact ∧ s.params.tablesOk = true ∧ 0 < s.params.sampleRate.toReal ∧ 0 < s.engine.fs.toReal ∧
    (∀ v, 0 ≤ (s.engine.voices.get v).level.toReal ∧ (s.engine.voices.get v).level.toReal ≤ 1) ∧
    0 ≤ s.engine.cutoff.toReal ∧ s.engine.cutoff.toReal ≤ 1 ∧ 0 ≤ s.engine.res.toReal ∧ s.engine.res.toReal ≤ 1

/-- Both frame rates are positive and at most the sample rate, so that `spf >= 1` (49 R345). -/
def RatesOk (p : Params) : Prop :=
  0 < p.frameRateSlow.toReal ∧ 0 < p.frameRateFast.toReal ∧ p.frameRateSlow.toReal ≤ p.sampleRate.toReal ∧
    p.frameRateFast.toReal ≤ p.sampleRate.toReal

/-- The samples per chip frame are a natural number below `2 ^ 24` at either frame rate (49 R346), and held as one. -/
def WholeFrames (p : Params) : Prop :=
  ∀ rate ∈ [p.frameRateSlow, p.frameRateFast],
    ∃ k : Nat, k < 2 ^ 24 ∧ p.sampleRate.toReal / rate.toReal = k ∧ p.num.div p.sampleRate rate = .nat k

/-- The domains in which the accumulator is exact: exact reals, and any other where `spf` is an integer below `2 ^ 24`
(49 R346). -/
def CountsExactly (p : Params) : Prop := p.num = .exact ∨ WholeFrames p

/-- The accumulator's bounds (49 R346), its value while Stopped (49 R348), and in a rounding domain its being an integer. -/
def AccInv (s : State) : Prop :=
  CountsExactly s.params ∧ RatesOk s.params ∧ 0 ≤ s.play.acc.toReal ∧ s.play.acc.toReal < s.samplesPerFrame.toReal ∧
    (s.play.playing = false → s.play.acc.toReal = 0) ∧
    (s.params.num ≠ .exact → ∃ k : Nat, s.play.acc = .nat k)

/-- Whether a chip frame has begun whose end is still to come: its play burst runs or has just returned. -/
def chipFrameOpen (s : State) : Bool :=
  match s.task with
  | .burst (.play _) _ _ => true
  | .burstDone (.play _) _ => true
  | .burst .init _ _ => false
  | .burstDone .init _ => false
  | .idle => false
  | .frame _ => false
  | .sample _ => false

/-- The output frames that the accumulator and the chip frames account for: `acc + spf * (chip frames begun)`, a chip frame
adding `1000 / frame_rate` to the elapsed time (49 R344, R347). -/
noncomputable def framesAccounted (s : State) : ℝ :=
  s.play.acc.toReal +
    s.samplesPerFrame.toReal *
      (s.play.elapsedMs.toReal * s.frameRate.toReal / 1000 + if chipFrameOpen s then 1 else 0)

/-- The machine is inside `process()` (48 R326). -/
def inProcess (t : Task) : Bool :=
  match t with
  | .burst (.play _) _ _ => true
  | .burstDone (.play _) _ => true
  | .burst .init _ _ => false
  | .burstDone .init _ => false
  | .idle => false
  | .frame _ => true
  | .sample _ => true

/-- The stack page and the window of the defaults (41 R140, 20 R61). -/
def DefaultMap (p : Params) : Prop := p.stackPage = 0x0100 ∧ p.winBase = 0xD400 ∧ p.winSize = 32

/-- SP_GUARD, its default in the words of 49 R338: the stack pointer is 1 to 128 above its value at the burst's entry,
modulo 256. -/
def GuardHolds (p : Params) (spIn sp : Byte) : Prop :=
  match p.spGuard with
  | .aboveEntry => 1 ≤ (sp - spIn).toNat ∧ (sp - spIn).toNat ≤ 128
  | .heldBy pairs => (spIn, sp) ∈ pairs

/-- `floor(4096 * phase)` (47 R297); for a phase in [0, 1) the remainder changes nothing, and outside it is the model's
choice (log 35). -/
noncomputable def phaseNumber (w : Voice) : Nat := (⌊4096 * w.phase.toReal⌋ % 4096).toNat

/-- The triangle's contribution as a number (47 R297): `q` in the second half of the period, or the neighbour's `qs` there
with ring modulation, but not both, folds it. -/
def triangleNumber (ring : Bool) (q qs : Nat) : Nat :=
  if Xor (2048 ≤ q) (ring = true ∧ 2048 ≤ qs) then 4095 - 2 * q % 4096 else 2 * q % 4096

/-- The noise's contribution as a number: `16 * n8` (47 R296). -/
def noiseNumber (r : BitVec 23) : Nat :=
  16 *
    (128 * (r.getLsbD 22).toNat + 64 * (r.getLsbD 20).toNat + 32 * (r.getLsbD 16).toNat + 16 * (r.getLsbD 13).toNat +
      8 * (r.getLsbD 11).toNat + 4 * (r.getLsbD 7).toNat + 2 * (r.getLsbD 4).toNat + (r.getLsbD 2).toNat)

/-- The combined contribution `W` as a number (47 R298). -/
def waveNumber (w : Voice) (q qs : Nat) : Nat :=
  if w.wave.getLsbD 3 then noiseNumber w.lfsr
  else
    (if w.wave.getLsbD 0 then triangleNumber w.ring q qs else 0) ||| (if w.wave.getLsbD 1 then q else 0) |||
      (if w.wave.getLsbD 2 then (if w.pw.toNat ≤ q then 4095 else 0) else 0)

/-- `vo[v]` as a number: the output of voice `v` of the advanced voices `vs`, 0 if it is muted (47 R298, R299, R301). -/
noncomputable def outputNumber (mute : PerVoice Bool) (vs : PerVoice Voice) (v : VoiceId) : ℝ :=
  if mute.get v = true ∨ (vs.get v).wave = 0 then 0
  else
    ((waveNumber (vs.get v) (phaseNumber (vs.get v)) (phaseNumber (vs.get (v + 2))) : ℝ) - 2048) / 2048 *
      (vs.get v).level.toReal * ((vs.get v).vel.val / 127)

/-- Every voice is silent: at level 0, without a waveform, or muted (47 R305). -/
def Silent (num : NumDomain) (mute : PerVoice Bool) (e : Engine) : Prop :=
  ∀ v, IsZero num (e.voices.get v).level ∨ (e.voices.get v).wave = 0 ∨ mute.get v = true

/-- That many samples of the engine. -/
def samples (p : Params) (mute : PerVoice Bool) : Nat → Engine → Engine
  | 0, e => e
  | n + 1, e => samples p mute n (e.processOneSample p mute).engine

/-- A real frequency's note (46 R243): `clamp(round(12 * log2(hz / 440) + 69), 0, 127)`. -/
noncomputable def realNote (hz : ℝ) : Int := max 0 (min 127 (round (12 * Real.logb 2 (hz / 440) + 69)))

/-- What the filter is given, over the reals. -/
noncomputable def FilterIn.toReal (i : FilterIn FilterReal Number) : FilterIn ℝ ℝ where
  low := i.low.toReal
  band := i.band.toReal
  cutoff := i.cutoff.toReal
  res := i.res.toReal
  mode := i.mode
  fs := i.fs.toReal
  x := i.x.toReal

/-- What the filter gives, over the reals. -/
noncomputable def FilterOut.toReal (o : FilterOut FilterReal) : FilterOut ℝ where
  low := o.low.toReal
  band := o.band.toReal
  y := o.y.toReal

/-- The finite numbers of the format binary32: `m * 2 ^ e` with a significand of at most 24 bits. That an infinity is no
number a buffer could hold is the model's reading of 48 R325. DEDUCED (log 33). -/
def IsBinary32 (y : Rat) : Prop := ∃ m e : Int, |m| < 2 ^ 24 ∧ -149 ≤ e ∧ e ≤ 104 ∧ y = (m : Rat) * (2 : Rat) ^ e

/-- `y` is a representable value nearest to the number `x`; of two that are equally near either may be held, since
48 R325 does not choose. -/
def NearestBinary32 (x : ℝ) (y : Rat) : Prop :=
  IsBinary32 y ∧ ∀ z : Rat, IsBinary32 z → |x - ((y : ℚ) : ℝ)| ≤ |x - ((z : ℚ) : ℝ)|

/-- The binary32 host buffer `buffer` after the call whose samples, real numbers, are `out`: it holds for each the nearest
representable value, converted, dithered and clipped in no other way (48 R325). -/
def HoldsBinary32 (out : List FilterReal) (buffer : List Rat) : Prop :=
  List.Forall₂ (fun x y => NearestBinary32 x.toReal y) out buffer

end Sys2Proof.Machine
end

