-- ==== Sys2Proof/Certificates/Slice0/Obligations.lean ====
section
/-! DEFINITION. The statements for the provers. A statement whose docstring names a log entry rests on a choice of the
model there. -/

open Sys2Proof Sys2Proof.Machine

/-- Decode and encode agree, with every operand at every value (30 R90 to R97). The 0x00 that the encoder writes for the
unread bytes of an unsupported opcode is the model's choice (log 14). -/
def Obligations.DecodeAndEncodeAgree : Prop :=
  (∀ (ul : ByteTable UnsupLength) (i : Instr) (rest : List Byte), i.wellFormed = true →
      decode ul (encode ul i ++ rest) = .ok (i, rest)) ∧
    ∀ (ul : ByteTable UnsupLength) (op b1 b2 : Byte),
      (decode3 op b1 b2).opcode = op ∧
        (unsupportedByte op = false →
          encode ul (decode3 op b1 b2) = [op, b1, b2].take ((decode3 op b1 b2).length ul))

/-- Words of each family, from the examples of 30 R116 and of the instruction rules. -/
def Obligations.SampleWordsDecode : Prop :=
  decodeTableWord 16 0x80A9 = some (.ldaImm 0x80) ∧
    decodeTableWord 24 0xD4048D = some (.staAbs 0xD404) ∧
    decodeTableWord 8 0xAA = some (.tax) ∧
    decodeTableWord 8 0x48 = some (.pha) ∧
    decodeTableWord 16 0x5069 = some (.adcImm 0x50) ∧
    decodeTableWord 16 0x10E6 = some (.incZp 0x10) ∧
    decodeTableWord 16 0xF29 = some (.andImm 0x0F) ∧
    decodeTableWord 8 0x2A = some (.rolAcc) ∧
    decodeTableWord 16 0xFBD0 = some (.bne 0xFB) ∧
    decodeTableWord 24 0x123420 = some (.jsr 0x1234) ∧
    decodeTableWord 24 0x3146C = some (.jmpInd 0x0314) ∧
    decodeTableWord 8 0x18 = some (.clc) ∧
    decodeTableWord 8 0x0 = some (.brk) ∧
    decodeTableWord 24 0x12340C = some (.unsup0C)

/-- The cycle counts of 30 R101, with CYCLES as a parameter (00 R6) and the table of R95 as its default. -/
def Obligations.CycleCountsFollowTable : Prop :=
  ∀ (i : Instr) (s : State),
    ∃ t, exec i s = .next t ∧
      (i.mnemonic ≠ .unsupported →
        t.cycles = s.params.cycles.entry i.opcode + extraCycles i s ∧
          defaultCycles.entry i.opcode = cycleColumn.getD i.opcode.toNat 0) ∧
      (i.mnemonic = .unsupported → t.cycles = s.params.unsupCycles) ∧ (s.params.cyclesOk = true → 1 ≤ t.cycles)

/-- A step runs the decoded instruction (45 R221), inside the loop of 49 R339. -/
def Obligations.StepRunsDecodedInstruction : Prop :=
  ∀ (s : State) (caller : Caller) (spIn : Byte) (used : Nat) (i : Instr) (rest : List Byte),
    s.task = .burst caller spIn used → s.pc ≠ s.params.sentinelPC → used < s.params.maxCycles →
      s.params.dropped.contains (s.memRead s.pc) = false →
      decode s.params.unsupLen [s.memRead s.pc, s.memRead (s.pc + 1), s.memRead (s.pc + 2)] = .ok (i, rest) → i.wellFormed = true →
      ∃ t, exec i s = .next t ∧ step s = .next (t.guardBurst caller spIn (used + t.cycles) s.pc)

/-- The skip of an opcode of 30 R95 that SUPPORTED does not hold (30 R94, 45 R222). How SUPPORTED is held (log 3) and the record of
the event (log 11) are the model's choices. -/
def Obligations.LeftOutOpcodeIsSkipped : Prop :=
  ∀ (s : State) (caller : Caller) (spIn : Byte) (used : Nat),
    s.task = .burst caller spIn used → s.pc ≠ s.params.sentinelPC → used < s.params.maxCycles →
      s.params.dropped.contains (s.memRead s.pc) = true → unsupportedByte (s.memRead s.pc) = false →
      step s = .next
        (State.guardBurst
          { s with
            pc := s.pc + BitVec.ofNat 16 ((decode3 (s.memRead s.pc) 0 0).length defaultUnsupLen)
            unsupCount := s.unsupCount + 1
            events := .unsupported (s.memRead s.pc) s.pc :: s.events
            cycles := s.params.unsupCycles }
          caller spIn (used + s.params.unsupCycles) s.pc)

/-- The tests of the burst loop in their order (49 R339); the stack guard is the parameter SP_GUARD, its default in the words of
49 R338. The record of an abort's diagnostic in `events` is the model's choice (log 11). -/
def Obligations.BurstLoopEndsInOrder : Prop :=
  ∀ (s : State) (caller : Caller) (spIn : Byte) (used : Nat),
    (s.task = .burst caller spIn used → s.pc = s.params.sentinelPC →
      step s = .next { s with task := .burstDone caller .returned }) ∧
    (s.task = .burst caller spIn used → s.pc ≠ s.params.sentinelPC → s.params.maxCycles ≤ used →
      step s = .next { s with events := .burstBudget :: s.events, task := .burstDone caller .budget }) ∧
    ∀ pc0 : Word,
      (s.pc = pc0 ∧ s.ctl.loopDetectionDisabled = false →
        s.guardBurst caller spIn used pc0 =
          { s with events := .burstStuckPC :: s.events, task := .burstDone caller .stuckPC }) ∧
      (¬ (s.pc = pc0 ∧ s.ctl.loopDetectionDisabled = false) → GuardHolds s.params spIn s.sp →
        s.guardBurst caller spIn used pc0 =
          { s with events := .burstStackDrift :: s.events, task := .burstDone caller .stackDrift }) ∧
      (¬ (s.pc = pc0 ∧ s.ctl.loopDetectionDisabled = false) → ¬ GuardHolds s.params spIn s.sp →
        s.guardBurst caller spIn used pc0 = { s with task := .burst caller spIn used })

/-- LDA, LDX, LDY in every form (40 R120 to R122). -/
def Obligations.LoadsComplete : Prop :=
  ∀ (s : State) (m zp : Byte) (addr base : Word),
    Answers s (.ldaIzx zp) 0xA1 [zp] 6 0 (SetsNZ (s.memRead (s.izxAddr zp))) { s with a := s.memRead (s.izxAddr zp) } ∧
    Answers s (.ldaZp zp) 0xA5 [zp] 3 0 (SetsNZ (s.memRead (zpAddr zp))) { s with a := s.memRead (zpAddr zp) } ∧
    Answers s (.ldaImm m) 0xA9 [m] 2 0 (SetsNZ m) { s with a := m } ∧
    Answers s (.ldaAbs addr) 0xAD [loByte addr, hiByte addr] 4 0 (SetsNZ (s.memRead addr)) { s with a := s.memRead addr } ∧
    Answers s (.ldaIzy zp) 0xB1 [zp] 5 (s.penalty (s.zpPointer zp) (s.izyAddr zp)) (SetsNZ (s.memRead (s.izyAddr zp))) { s with a := s.memRead (s.izyAddr zp) } ∧
    Answers s (.ldaZpx zp) 0xB5 [zp] 4 0 (SetsNZ (s.memRead (s.zpxAddr zp))) { s with a := s.memRead (s.zpxAddr zp) } ∧
    Answers s (.ldaAby base) 0xB9 [loByte base, hiByte base] 4 (s.penalty base (s.abyAddr base)) (SetsNZ (s.memRead (s.abyAddr base))) { s with a := s.memRead (s.abyAddr base) } ∧
    Answers s (.ldaAbx base) 0xBD [loByte base, hiByte base] 4 (s.penalty base (s.abxAddr base)) (SetsNZ (s.memRead (s.abxAddr base))) { s with a := s.memRead (s.abxAddr base) } ∧
    Answers s (.ldxImm m) 0xA2 [m] 2 0 (SetsNZ m) { s with x := m } ∧
    Answers s (.ldxZp zp) 0xA6 [zp] 3 0 (SetsNZ (s.memRead (zpAddr zp))) { s with x := s.memRead (zpAddr zp) } ∧
    Answers s (.ldxAbs addr) 0xAE [loByte addr, hiByte addr] 4 0 (SetsNZ (s.memRead addr)) { s with x := s.memRead addr } ∧
    Answers s (.ldxZpy zp) 0xB6 [zp] 4 0 (SetsNZ (s.memRead (s.zpyAddr zp))) { s with x := s.memRead (s.zpyAddr zp) } ∧
    Answers s (.ldxAby base) 0xBE [loByte base, hiByte base] 4 (s.penalty base (s.abyAddr base)) (SetsNZ (s.memRead (s.abyAddr base))) { s with x := s.memRead (s.abyAddr base) } ∧
    Answers s (.ldyImm m) 0xA0 [m] 2 0 (SetsNZ m) { s with y := m } ∧
    Answers s (.ldyZp zp) 0xA4 [zp] 3 0 (SetsNZ (s.memRead (zpAddr zp))) { s with y := s.memRead (zpAddr zp) } ∧
    Answers s (.ldyAbs addr) 0xAC [loByte addr, hiByte addr] 4 0 (SetsNZ (s.memRead addr)) { s with y := s.memRead addr } ∧
    Answers s (.ldyZpx zp) 0xB4 [zp] 4 0 (SetsNZ (s.memRead (s.zpxAddr zp))) { s with y := s.memRead (s.zpxAddr zp) } ∧
    Answers s (.ldyAbx base) 0xBC [loByte base, hiByte base] 4 (s.penalty base (s.abxAddr base)) (SetsNZ (s.memRead (s.abxAddr base))) { s with y := s.memRead (s.abxAddr base) }

/-- STA, STX, STY in every form (40 R123 to R125). -/
def Obligations.StoresComplete : Prop :=
  ∀ (s : State) (zp : Byte) (addr base : Word),
    Answers s (.staIzx zp) 0x81 [zp] 6 0 KeepsStatus (s.memWrite (s.izxAddr zp) s.a) ∧
    Answers s (.staZp zp) 0x85 [zp] 3 0 KeepsStatus (s.memWrite (zpAddr zp) s.a) ∧
    Answers s (.staAbs addr) 0x8D [loByte addr, hiByte addr] 4 0 KeepsStatus (s.memWrite addr s.a) ∧
    Answers s (.staIzy zp) 0x91 [zp] 6 0 KeepsStatus (s.memWrite (s.izyAddr zp) s.a) ∧
    Answers s (.staZpx zp) 0x95 [zp] 4 0 KeepsStatus (s.memWrite (s.zpxAddr zp) s.a) ∧
    Answers s (.staAby base) 0x99 [loByte base, hiByte base] 5 0 KeepsStatus (s.memWrite (s.abyAddr base) s.a) ∧
    Answers s (.staAbx base) 0x9D [loByte base, hiByte base] 5 0 KeepsStatus (s.memWrite (s.abxAddr base) s.a) ∧
    Answers s (.stxZp zp) 0x86 [zp] 3 0 KeepsStatus (s.memWrite (zpAddr zp) s.x) ∧
    Answers s (.stxAbs addr) 0x8E [loByte addr, hiByte addr] 4 0 KeepsStatus (s.memWrite addr s.x) ∧
    Answers s (.stxZpy zp) 0x96 [zp] 4 0 KeepsStatus (s.memWrite (s.zpyAddr zp) s.x) ∧
    Answers s (.styZp zp) 0x84 [zp] 3 0 KeepsStatus (s.memWrite (zpAddr zp) s.y) ∧
    Answers s (.styAbs addr) 0x8C [loByte addr, hiByte addr] 4 0 KeepsStatus (s.memWrite addr s.y) ∧
    Answers s (.styZpx zp) 0x94 [zp] 4 0 KeepsStatus (s.memWrite (s.zpxAddr zp) s.y)

/-- The six register transfers (40 R126 to R131). -/
def Obligations.TransfersComplete : Prop :=
  ∀ s : State,
    Answers s .tax 0xAA [] 2 0 (SetsNZ s.a) { s with x := s.a } ∧
    Answers s .tay 0xA8 [] 2 0 (SetsNZ s.a) { s with y := s.a } ∧
    Answers s .txa 0x8A [] 2 0 (SetsNZ s.x) { s with a := s.x } ∧
    Answers s .tya 0x98 [] 2 0 (SetsNZ s.y) { s with a := s.y } ∧
    Answers s .tsx 0xBA [] 2 0 (SetsNZ s.sp) { s with x := s.sp } ∧
    Answers s .txs 0x9A [] 2 0 KeepsStatus { s with sp := s.x }

/-- PHA, PHP, PLA, PLP (41 R144 to R147). With STACK_PAGE (00 R6) off its default the stack address STACK_PAGE | SP is the
model's reading (log 24). -/
def Obligations.StackInstructionsComplete : Prop :=
  ∀ s : State,
    Answers s .pha 0x48 [] 3 0 KeepsStatus { s.memWrite (s.params.stackPage ||| zext16 s.sp) s.a with sp := s.sp - 1 } ∧
    Answers s .php 0x08 [] 3 0 KeepsStatus { s.memWrite (s.params.stackPage ||| zext16 s.sp) (s.p ||| 0x30) with sp := s.sp - 1 } ∧
    Answers s .pla 0x68 [] 4 0 (SetsNZ (s.memRead (s.params.stackPage ||| zext16 (s.sp + 1)))) { s with a := s.memRead (s.params.stackPage ||| zext16 (s.sp + 1)), sp := s.sp + 1 } ∧
    Answers s .plp 0x28 [] 4 0 (fun _ q => q = (s.memRead (s.params.stackPage ||| zext16 (s.sp + 1)) &&& 0xCF) ||| 0x20) { s with sp := s.sp + 1 }

/-- ADC and SBC in every form (42 R151, R152). -/
def Obligations.AddSubtractComplete : Prop :=
  ∀ (s : State) (m zp : Byte) (addr base : Word),
    AnswersSum s (.adcIzx zp) 0x61 [zp] 6 0 (AddsWithCarry s.a (s.memRead (s.izxAddr zp))) ∧
    AnswersSum s (.adcZp zp) 0x65 [zp] 3 0 (AddsWithCarry s.a (s.memRead (zpAddr zp))) ∧
    AnswersSum s (.adcImm m) 0x69 [m] 2 0 (AddsWithCarry s.a m) ∧
    AnswersSum s (.adcAbs addr) 0x6D [loByte addr, hiByte addr] 4 0 (AddsWithCarry s.a (s.memRead addr)) ∧
    AnswersSum s (.adcIzy zp) 0x71 [zp] 5 (s.penalty (s.zpPointer zp) (s.izyAddr zp)) (AddsWithCarry s.a (s.memRead (s.izyAddr zp))) ∧
    AnswersSum s (.adcZpx zp) 0x75 [zp] 4 0 (AddsWithCarry s.a (s.memRead (s.zpxAddr zp))) ∧
    AnswersSum s (.adcAby base) 0x79 [loByte base, hiByte base] 4 (s.penalty base (s.abyAddr base)) (AddsWithCarry s.a (s.memRead (s.abyAddr base))) ∧
    AnswersSum s (.adcAbx base) 0x7D [loByte base, hiByte base] 4 (s.penalty base (s.abxAddr base)) (AddsWithCarry s.a (s.memRead (s.abxAddr base))) ∧
    AnswersSum s (.sbcIzx zp) 0xE1 [zp] 6 0 (SubtractsWithBorrow s.a (s.memRead (s.izxAddr zp))) ∧
    AnswersSum s (.sbcZp zp) 0xE5 [zp] 3 0 (SubtractsWithBorrow s.a (s.memRead (zpAddr zp))) ∧
    AnswersSum s (.sbcImm m) 0xE9 [m] 2 0 (SubtractsWithBorrow s.a m) ∧
    AnswersSum s (.sbcAbs addr) 0xED [loByte addr, hiByte addr] 4 0 (SubtractsWithBorrow s.a (s.memRead addr)) ∧
    AnswersSum s (.sbcIzy zp) 0xF1 [zp] 5 (s.penalty (s.zpPointer zp) (s.izyAddr zp)) (SubtractsWithBorrow s.a (s.memRead (s.izyAddr zp))) ∧
    AnswersSum s (.sbcZpx zp) 0xF5 [zp] 4 0 (SubtractsWithBorrow s.a (s.memRead (s.zpxAddr zp))) ∧
    AnswersSum s (.sbcAby base) 0xF9 [loByte base, hiByte base] 4 (s.penalty base (s.abyAddr base)) (SubtractsWithBorrow s.a (s.memRead (s.abyAddr base))) ∧
    AnswersSum s (.sbcAbx base) 0xFD [loByte base, hiByte base] 4 (s.penalty base (s.abxAddr base)) (SubtractsWithBorrow s.a (s.memRead (s.abxAddr base)))

/-- CMP, CPX, CPY in every form (42 R153 to R155). -/
def Obligations.ComparesComplete : Prop :=
  ∀ (s : State) (m zp : Byte) (addr base : Word),
    Answers s (.cmpIzx zp) 0xC1 [zp] 6 0 (Compares s.a (s.memRead (s.izxAddr zp))) s ∧
    Answers s (.cmpZp zp) 0xC5 [zp] 3 0 (Compares s.a (s.memRead (zpAddr zp))) s ∧
    Answers s (.cmpImm m) 0xC9 [m] 2 0 (Compares s.a m) s ∧
    Answers s (.cmpAbs addr) 0xCD [loByte addr, hiByte addr] 4 0 (Compares s.a (s.memRead addr)) s ∧
    Answers s (.cmpIzy zp) 0xD1 [zp] 5 (s.penalty (s.zpPointer zp) (s.izyAddr zp)) (Compares s.a (s.memRead (s.izyAddr zp))) s ∧
    Answers s (.cmpZpx zp) 0xD5 [zp] 4 0 (Compares s.a (s.memRead (s.zpxAddr zp))) s ∧
    Answers s (.cmpAby base) 0xD9 [loByte base, hiByte base] 4 (s.penalty base (s.abyAddr base)) (Compares s.a (s.memRead (s.abyAddr base))) s ∧
    Answers s (.cmpAbx base) 0xDD [loByte base, hiByte base] 4 (s.penalty base (s.abxAddr base)) (Compares s.a (s.memRead (s.abxAddr base))) s ∧
    Answers s (.cpxImm m) 0xE0 [m] 2 0 (Compares s.x m) s ∧
    Answers s (.cpxZp zp) 0xE4 [zp] 3 0 (Compares s.x (s.memRead (zpAddr zp))) s ∧
    Answers s (.cpxAbs addr) 0xEC [loByte addr, hiByte addr] 4 0 (Compares s.x (s.memRead addr)) s ∧
    Answers s (.cpyImm m) 0xC0 [m] 2 0 (Compares s.y m) s ∧
    Answers s (.cpyZp zp) 0xC4 [zp] 3 0 (Compares s.y (s.memRead (zpAddr zp))) s ∧
    Answers s (.cpyAbs addr) 0xCC [loByte addr, hiByte addr] 4 0 (Compares s.y (s.memRead addr)) s

/-- INC, DEC, INX, INY, DEX, DEY in every form (42 R156 to R161). -/
def Obligations.IncrementsDecrementsComplete : Prop :=
  ∀ (s : State) (zp : Byte) (addr base : Word),
    Answers s (.incZp zp) 0xE6 [zp] 5 0 (SetsNZ (s.memRead (zpAddr zp) + 1)) (s.memWrite (zpAddr zp) (s.memRead (zpAddr zp) + 1)) ∧
    Answers s (.incAbs addr) 0xEE [loByte addr, hiByte addr] 6 0 (SetsNZ (s.memRead addr + 1)) (s.memWrite addr (s.memRead addr + 1)) ∧
    Answers s (.incZpx zp) 0xF6 [zp] 6 0 (SetsNZ (s.memRead (s.zpxAddr zp) + 1)) (s.memWrite (s.zpxAddr zp) (s.memRead (s.zpxAddr zp) + 1)) ∧
    Answers s (.incAbx base) 0xFE [loByte base, hiByte base] 7 0 (SetsNZ (s.memRead (s.abxAddr base) + 1)) (s.memWrite (s.abxAddr base) (s.memRead (s.abxAddr base) + 1)) ∧
    Answers s (.decZp zp) 0xC6 [zp] 5 0 (SetsNZ (s.memRead (zpAddr zp) - 1)) (s.memWrite (zpAddr zp) (s.memRead (zpAddr zp) - 1)) ∧
    Answers s (.decAbs addr) 0xCE [loByte addr, hiByte addr] 6 0 (SetsNZ (s.memRead addr - 1)) (s.memWrite addr (s.memRead addr - 1)) ∧
    Answers s (.decZpx zp) 0xD6 [zp] 6 0 (SetsNZ (s.memRead (s.zpxAddr zp) - 1)) (s.memWrite (s.zpxAddr zp) (s.memRead (s.zpxAddr zp) - 1)) ∧
    Answers s (.decAbx base) 0xDE [loByte base, hiByte base] 7 0 (SetsNZ (s.memRead (s.abxAddr base) - 1)) (s.memWrite (s.abxAddr base) (s.memRead (s.abxAddr base) - 1)) ∧
    Answers s .inx 0xE8 [] 2 0 (SetsNZ (s.x + 1)) { s with x := s.x + 1 } ∧
    Answers s .iny 0xC8 [] 2 0 (SetsNZ (s.y + 1)) { s with y := s.y + 1 } ∧
    Answers s .dex 0xCA [] 2 0 (SetsNZ (s.x - 1)) { s with x := s.x - 1 } ∧
    Answers s .dey 0x88 [] 2 0 (SetsNZ (s.y - 1)) { s with y := s.y - 1 }

/-- AND, ORA, EOR, BIT in every form (43 R170 to R173). -/
def Obligations.LogicComplete : Prop :=
  ∀ (s : State) (m zp : Byte) (addr base : Word),
    Answers s (.andIzx zp) 0x21 [zp] 6 0 (SetsNZ (s.a &&& s.memRead (s.izxAddr zp))) { s with a := s.a &&& s.memRead (s.izxAddr zp) } ∧
    Answers s (.andZp zp) 0x25 [zp] 3 0 (SetsNZ (s.a &&& s.memRead (zpAddr zp))) { s with a := s.a &&& s.memRead (zpAddr zp) } ∧
    Answers s (.andImm m) 0x29 [m] 2 0 (SetsNZ (s.a &&& m)) { s with a := s.a &&& m } ∧
    Answers s (.andAbs addr) 0x2D [loByte addr, hiByte addr] 4 0 (SetsNZ (s.a &&& s.memRead addr)) { s with a := s.a &&& s.memRead addr } ∧
    Answers s (.andIzy zp) 0x31 [zp] 5 (s.penalty (s.zpPointer zp) (s.izyAddr zp)) (SetsNZ (s.a &&& s.memRead (s.izyAddr zp))) { s with a := s.a &&& s.memRead (s.izyAddr zp) } ∧
    Answers s (.andZpx zp) 0x35 [zp] 4 0 (SetsNZ (s.a &&& s.memRead (s.zpxAddr zp))) { s with a := s.a &&& s.memRead (s.zpxAddr zp) } ∧
    Answers s (.andAby base) 0x39 [loByte base, hiByte base] 4 (s.penalty base (s.abyAddr base)) (SetsNZ (s.a &&& s.memRead (s.abyAddr base))) { s with a := s.a &&& s.memRead (s.abyAddr base) } ∧
    Answers s (.andAbx base) 0x3D [loByte base, hiByte base] 4 (s.penalty base (s.abxAddr base)) (SetsNZ (s.a &&& s.memRead (s.abxAddr base))) { s with a := s.a &&& s.memRead (s.abxAddr base) } ∧
    Answers s (.oraIzx zp) 0x01 [zp] 6 0 (SetsNZ (s.a ||| s.memRead (s.izxAddr zp))) { s with a := s.a ||| s.memRead (s.izxAddr zp) } ∧
    Answers s (.oraZp zp) 0x05 [zp] 3 0 (SetsNZ (s.a ||| s.memRead (zpAddr zp))) { s with a := s.a ||| s.memRead (zpAddr zp) } ∧
    Answers s (.oraImm m) 0x09 [m] 2 0 (SetsNZ (s.a ||| m)) { s with a := s.a ||| m } ∧
    Answers s (.oraAbs addr) 0x0D [loByte addr, hiByte addr] 4 0 (SetsNZ (s.a ||| s.memRead addr)) { s with a := s.a ||| s.memRead addr } ∧
    Answers s (.oraIzy zp) 0x11 [zp] 5 (s.penalty (s.zpPointer zp) (s.izyAddr zp)) (SetsNZ (s.a ||| s.memRead (s.izyAddr zp))) { s with a := s.a ||| s.memRead (s.izyAddr zp) } ∧
    Answers s (.oraZpx zp) 0x15 [zp] 4 0 (SetsNZ (s.a ||| s.memRead (s.zpxAddr zp))) { s with a := s.a ||| s.memRead (s.zpxAddr zp) } ∧
    Answers s (.oraAby base) 0x19 [loByte base, hiByte base] 4 (s.penalty base (s.abyAddr base)) (SetsNZ (s.a ||| s.memRead (s.abyAddr base))) { s with a := s.a ||| s.memRead (s.abyAddr base) } ∧
    Answers s (.oraAbx base) 0x1D [loByte base, hiByte base] 4 (s.penalty base (s.abxAddr base)) (SetsNZ (s.a ||| s.memRead (s.abxAddr base))) { s with a := s.a ||| s.memRead (s.abxAddr base) } ∧
    Answers s (.eorIzx zp) 0x41 [zp] 6 0 (SetsNZ (s.a ^^^ s.memRead (s.izxAddr zp))) { s with a := s.a ^^^ s.memRead (s.izxAddr zp) } ∧
    Answers s (.eorZp zp) 0x45 [zp] 3 0 (SetsNZ (s.a ^^^ s.memRead (zpAddr zp))) { s with a := s.a ^^^ s.memRead (zpAddr zp) } ∧
    Answers s (.eorImm m) 0x49 [m] 2 0 (SetsNZ (s.a ^^^ m)) { s with a := s.a ^^^ m } ∧
    Answers s (.eorAbs addr) 0x4D [loByte addr, hiByte addr] 4 0 (SetsNZ (s.a ^^^ s.memRead addr)) { s with a := s.a ^^^ s.memRead addr } ∧
    Answers s (.eorIzy zp) 0x51 [zp] 5 (s.penalty (s.zpPointer zp) (s.izyAddr zp)) (SetsNZ (s.a ^^^ s.memRead (s.izyAddr zp))) { s with a := s.a ^^^ s.memRead (s.izyAddr zp) } ∧
    Answers s (.eorZpx zp) 0x55 [zp] 4 0 (SetsNZ (s.a ^^^ s.memRead (s.zpxAddr zp))) { s with a := s.a ^^^ s.memRead (s.zpxAddr zp) } ∧
    Answers s (.eorAby base) 0x59 [loByte base, hiByte base] 4 (s.penalty base (s.abyAddr base)) (SetsNZ (s.a ^^^ s.memRead (s.abyAddr base))) { s with a := s.a ^^^ s.memRead (s.abyAddr base) } ∧
    Answers s (.eorAbx base) 0x5D [loByte base, hiByte base] 4 (s.penalty base (s.abxAddr base)) (SetsNZ (s.a ^^^ s.memRead (s.abxAddr base))) { s with a := s.a ^^^ s.memRead (s.abxAddr base) } ∧
    Answers s (.bitZp zp) 0x24 [zp] 3 0 (TestsBits s.a (s.memRead (zpAddr zp))) s ∧
    Answers s (.bitAbs addr) 0x2C [loByte addr, hiByte addr] 4 0 (TestsBits s.a (s.memRead addr)) s

/-- ASL, LSR, ROL, ROR in every form (43 R174 to R177). -/
def Obligations.ShiftsRotatesComplete : Prop :=
  ∀ (s : State) (zp : Byte) (addr base : Word),
    Answers s (.aslZp zp) 0x06 [zp] 5 0
      (Shifts (s.memRead (zpAddr zp) <<< 1) ((s.memRead (zpAddr zp)).getLsbD 7))
      (s.memWrite (zpAddr zp) (s.memRead (zpAddr zp) <<< 1)) ∧
    Answers s .aslAcc 0x0A [] 2 0
      (Shifts (s.a <<< 1) (s.a.getLsbD 7))
      { s with a := s.a <<< 1 } ∧
    Answers s (.aslAbs addr) 0x0E [loByte addr, hiByte addr] 6 0
      (Shifts (s.memRead addr <<< 1) ((s.memRead addr).getLsbD 7))
      (s.memWrite addr (s.memRead addr <<< 1)) ∧
    Answers s (.aslZpx zp) 0x16 [zp] 6 0
      (Shifts (s.memRead (s.zpxAddr zp) <<< 1) ((s.memRead (s.zpxAddr zp)).getLsbD 7))
      (s.memWrite (s.zpxAddr zp) (s.memRead (s.zpxAddr zp) <<< 1)) ∧
    Answers s (.aslAbx base) 0x1E [loByte base, hiByte base] 7 0
      (Shifts (s.memRead (s.abxAddr base) <<< 1) ((s.memRead (s.abxAddr base)).getLsbD 7))
      (s.memWrite (s.abxAddr base) (s.memRead (s.abxAddr base) <<< 1)) ∧
    Answers s (.lsrZp zp) 0x46 [zp] 5 0
      (Shifts (s.memRead (zpAddr zp) >>> 1) ((s.memRead (zpAddr zp)).getLsbD 0))
      (s.memWrite (zpAddr zp) (s.memRead (zpAddr zp) >>> 1)) ∧
    Answers s .lsrAcc 0x4A [] 2 0
      (Shifts (s.a >>> 1) (s.a.getLsbD 0))
      { s with a := s.a >>> 1 } ∧
    Answers s (.lsrAbs addr) 0x4E [loByte addr, hiByte addr] 6 0
      (Shifts (s.memRead addr >>> 1) ((s.memRead addr).getLsbD 0))
      (s.memWrite addr (s.memRead addr >>> 1)) ∧
    Answers s (.lsrZpx zp) 0x56 [zp] 6 0
      (Shifts (s.memRead (s.zpxAddr zp) >>> 1) ((s.memRead (s.zpxAddr zp)).getLsbD 0))
      (s.memWrite (s.zpxAddr zp) (s.memRead (s.zpxAddr zp) >>> 1)) ∧
    Answers s (.lsrAbx base) 0x5E [loByte base, hiByte base] 7 0
      (Shifts (s.memRead (s.abxAddr base) >>> 1) ((s.memRead (s.abxAddr base)).getLsbD 0))
      (s.memWrite (s.abxAddr base) (s.memRead (s.abxAddr base) >>> 1)) ∧
    Answers s (.rolZp zp) 0x26 [zp] 5 0
      (Shifts ((s.memRead (zpAddr zp) <<< 1) ||| if flagC s.p then 0x01 else 0x00) ((s.memRead (zpAddr zp)).getLsbD 7))
      (s.memWrite (zpAddr zp) ((s.memRead (zpAddr zp) <<< 1) ||| if flagC s.p then 0x01 else 0x00)) ∧
    Answers s .rolAcc 0x2A [] 2 0
      (Shifts ((s.a <<< 1) ||| if flagC s.p then 0x01 else 0x00) (s.a.getLsbD 7))
      { s with a := (s.a <<< 1) ||| if flagC s.p then 0x01 else 0x00 } ∧
    Answers s (.rolAbs addr) 0x2E [loByte addr, hiByte addr] 6 0
      (Shifts ((s.memRead addr <<< 1) ||| if flagC s.p then 0x01 else 0x00) ((s.memRead addr).getLsbD 7))
      (s.memWrite addr ((s.memRead addr <<< 1) ||| if flagC s.p then 0x01 else 0x00)) ∧
    Answers s (.rolZpx zp) 0x36 [zp] 6 0
      (Shifts ((s.memRead (s.zpxAddr zp) <<< 1) ||| if flagC s.p then 0x01 else 0x00) ((s.memRead (s.zpxAddr zp)).getLsbD 7))
      (s.memWrite (s.zpxAddr zp) ((s.memRead (s.zpxAddr zp) <<< 1) ||| if flagC s.p then 0x01 else 0x00)) ∧
    Answers s (.rolAbx base) 0x3E [loByte base, hiByte base] 7 0
      (Shifts ((s.memRead (s.abxAddr base) <<< 1) ||| if flagC s.p then 0x01 else 0x00) ((s.memRead (s.abxAddr base)).getLsbD 7))
      (s.memWrite (s.abxAddr base) ((s.memRead (s.abxAddr base) <<< 1) ||| if flagC s.p then 0x01 else 0x00)) ∧
    Answers s (.rorZp zp) 0x66 [zp] 5 0
      (Shifts ((s.memRead (zpAddr zp) >>> 1) ||| if flagC s.p then 0x80 else 0x00) ((s.memRead (zpAddr zp)).getLsbD 0))
      (s.memWrite (zpAddr zp) ((s.memRead (zpAddr zp) >>> 1) ||| if flagC s.p then 0x80 else 0x00)) ∧
    Answers s .rorAcc 0x6A [] 2 0
      (Shifts ((s.a >>> 1) ||| if flagC s.p then 0x80 else 0x00) (s.a.getLsbD 0))
      { s with a := (s.a >>> 1) ||| if flagC s.p then 0x80 else 0x00 } ∧
    Answers s (.rorAbs addr) 0x6E [loByte addr, hiByte addr] 6 0
      (Shifts ((s.memRead addr >>> 1) ||| if flagC s.p then 0x80 else 0x00) ((s.memRead addr).getLsbD 0))
      (s.memWrite addr ((s.memRead addr >>> 1) ||| if flagC s.p then 0x80 else 0x00)) ∧
    Answers s (.rorZpx zp) 0x76 [zp] 6 0
      (Shifts ((s.memRead (s.zpxAddr zp) >>> 1) ||| if flagC s.p then 0x80 else 0x00) ((s.memRead (s.zpxAddr zp)).getLsbD 0))
      (s.memWrite (s.zpxAddr zp) ((s.memRead (s.zpxAddr zp) >>> 1) ||| if flagC s.p then 0x80 else 0x00)) ∧
    Answers s (.rorAbx base) 0x7E [loByte base, hiByte base] 7 0
      (Shifts ((s.memRead (s.abxAddr base) >>> 1) ||| if flagC s.p then 0x80 else 0x00) ((s.memRead (s.abxAddr base)).getLsbD 0))
      (s.memWrite (s.abxAddr base) ((s.memRead (s.abxAddr base) >>> 1) ||| if flagC s.p then 0x80 else 0x00))

/-- The eight branches (44 R190 to R198). -/
def Obligations.BranchesComplete : Prop :=
  ∀ (s : State) (off : Byte),
    AnswersBranch s (.bcc off) 0x90 off (!flagC s.p) ∧
    AnswersBranch s (.bcs off) 0xB0 off (flagC s.p) ∧
    AnswersBranch s (.beq off) 0xF0 off (flagZ s.p) ∧
    AnswersBranch s (.bmi off) 0x30 off (flagN s.p) ∧
    AnswersBranch s (.bne off) 0xD0 off (!flagZ s.p) ∧
    AnswersBranch s (.bpl off) 0x10 off (!flagN s.p) ∧
    AnswersBranch s (.bvc off) 0x50 off (!flagV s.p) ∧
    AnswersBranch s (.bvs off) 0x70 off (flagV s.p)

/-- JMP and JSR (44 R199, R201; 30 R112). With STACK_PAGE (00 R6) off its default the stack address STACK_PAGE | SP is the
model's reading (log 24). -/
def Obligations.JumpsAndCallComplete : Prop :=
  ∀ (s : State) (b1 b2 : Byte),
    (encode s.params.unsupLen (.jmpAbs (wordOf b2 b1)) = [0x4C, b1, b2] ∧ defaultCycles.entry 0x4C = 3 ∧
      exec (.jmpAbs (wordOf b2 b1)) s = .next
        { s with pc := wordOf b2 b1, cycles := s.params.cycles.entry 0x4C }) ∧
    (encode s.params.unsupLen (.jmpInd (wordOf b2 b1)) = [0x6C, b1, b2] ∧ defaultCycles.entry 0x6C = 5 ∧
      exec (.jmpInd (wordOf b2 b1)) s = .next
        { s with
          pc :=
            wordOf
              (if s.params.jmpIndWrap then s.memRead (wordOf b2 (b1 + 1)) else s.memRead (wordOf b2 b1 + 1))
              (s.memRead (wordOf b2 b1))
          cycles := s.params.cycles.entry 0x6C }) ∧
    (encode s.params.unsupLen (.jsr (wordOf b2 b1)) = [0x20, b1, b2] ∧ defaultCycles.entry 0x20 = 6 ∧
      exec (.jsr (wordOf b2 b1)) s = .next
        { (s.memWrite (s.params.stackPage ||| zext16 s.sp) (hiByte (s.pc + 2))).memWrite (s.params.stackPage ||| zext16 (s.sp - 1)) (loByte (s.pc + 2)) with
          sp := s.sp - 2
          pc := wordOf b2 b1
          cycles := s.params.cycles.entry 0x20 })

/-- RTS and RTI (44 R202, R203). With STACK_PAGE (00 R6) off its default the stack address STACK_PAGE | SP is the model's
reading (log 24). -/
def Obligations.ReturnsComplete : Prop :=
  ∀ s : State,
    (encode s.params.unsupLen .rts = [0x60] ∧ defaultCycles.entry 0x60 = 6 ∧
      exec .rts s = .next
        { s with
          sp := s.sp + 2
          pc := wordOf (s.memRead (s.params.stackPage ||| zext16 (s.sp + 2))) (s.memRead (s.params.stackPage ||| zext16 (s.sp + 1))) + 1
          cycles := s.params.cycles.entry 0x60 }) ∧
    (encode s.params.unsupLen .rti = [0x40] ∧ defaultCycles.entry 0x40 = 6 ∧
      exec .rti s = .next
        { s with
          p := (s.memRead (s.params.stackPage ||| zext16 (s.sp + 1)) &&& 0xCF) ||| 0x20
          sp := s.sp + 3
          pc := wordOf (s.memRead (s.params.stackPage ||| zext16 (s.sp + 3))) (s.memRead (s.params.stackPage ||| zext16 (s.sp + 2)))
          cycles := s.params.cycles.entry 0x40 })

/-- The flag instructions and NOP (45 R210 to R217). -/
def Obligations.FlagInstructionsComplete : Prop :=
  ∀ s : State,
    Answers s .clc 0x18 [] 2 0 (WritesFlag flagC 0x01 false) s ∧
    Answers s .sec 0x38 [] 2 0 (WritesFlag flagC 0x01 true) s ∧
    Answers s .cli 0x58 [] 2 0 (WritesFlag flagI 0x04 false) s ∧
    Answers s .sei 0x78 [] 2 0 (WritesFlag flagI 0x04 true) s ∧
    Answers s .clv 0xB8 [] 2 0 (WritesFlag flagV 0x40 false) s ∧
    Answers s .cld 0xD8 [] 2 0 (WritesFlag flagD 0x08 false) s ∧
    Answers s .sed 0xF8 [] 2 0 (WritesFlag flagD 0x08 true) s ∧
    Answers s .nop 0xEA [] 2 0 KeepsStatus s

/-- BRK, the one trap-like instruction (45 R219, 60 R374). With STACK_PAGE and BRK_VECTOR (00 R6) off their defaults the stack
address STACK_PAGE | SP and the vector's high byte at BRK_VECTOR + 1 are the model's reading (log 24, log 23). -/
def Obligations.BrkCompletes : Prop :=
  ∀ s : State,
    encode s.params.unsupLen .brk = [0x00] ∧ defaultCycles.entry 0x00 = 7 ∧
      ∃ t q,
        t = ((s.memWrite (s.params.stackPage ||| zext16 s.sp) (hiByte (s.pc + 2))).memWrite (s.params.stackPage ||| zext16 (s.sp - 1)) (loByte (s.pc + 2))).memWrite
          (s.params.stackPage ||| zext16 (s.sp - 2)) (s.p ||| 0x30) ∧
        WritesFlag flagI 0x04 true s.p q ∧
        exec .brk s = .next
          { t with
            p := q
            sp := s.sp - 3
            pc := wordOf (t.memRead (s.params.brkVector + 1)) (t.memRead s.params.brkVector)
            cycles := s.params.cycles.entry 0x00 }

/-- The 105 unsupported opcodes (45 R222), each by its own constructor, with the lengths of UNSUP_LEN (00 R6, 30
R99). The record of the event is the model's own (log 11). -/
def Obligations.UnsupportedOpcodesComplete : Prop :=
  unsupportedRows.length = 105 ∧
    ∀ (s : State) (op : Byte) (i : Instr), (op, i) ∈ unsupportedRows →
      i.opcode = op ∧ 1 ≤ lengthIn s.params.unsupLen op ∧ lengthIn s.params.unsupLen op ≤ 3 ∧
        lengthIn defaultUnsupLen op = guessedLength op ∧
        exec i s = .next
          { s with
            pc := s.pc + BitVec.ofNat 16 (lengthIn s.params.unsupLen op)
            unsupCount := s.unsupCount + 1
            events := .unsupported op s.pc :: s.events
            cycles := s.params.unsupCycles }

/-- The two hooks (20 R62, R63) and the order of reads and writes (20 R73). The shadow bytes from offset 32 on, which only a
WIN_SIZE above 32 admits (log 32), and that a window with a base above 0xFFE0 does not go on at address 0 (log 17), are the
model's choices. -/
def Obligations.HooksRedirectWindow : Prop :=
  ∀ (s : State) (a : Word) (v : Byte),
    (∀ o : Nat, o < s.params.winSize → a.toNat = s.params.winBase.toNat + o →
      s.memWrite a v =
          { s with cache := bridgeCache o v s.cache, engine := bridgeEngine s.params o v s.cache s.engine } ∧
        (∀ h : o < 32,
          s.memRead a = s.cache.shadow[o] ∧ (s.memWrite a v).cache.shadow = s.cache.shadow.set o v ∧
            (s.memWrite a v).cache.more = s.cache.more) ∧
        (32 ≤ o →
          s.memRead a = s.cache.more.read o ∧
            s.memWrite a v = { s with cache := { s.cache with more := s.cache.more.write o v } })) ∧
    ((∀ o : Nat, o < s.params.winSize → a.toNat ≠ s.params.winBase.toNat + o) →
      s.memRead a = s.mem.read a.toNat ∧ s.memWrite a v = { s with mem := s.mem.write a.toNat v }) ∧
    (s.mem.wf = true → s.cache.more.wf = true →
      (s.memWrite a v).memRead a = v ∧ (s.memWrite a v).mem.wf = true ∧ (s.memWrite a v).cache.more.wf = true) ∧
    ∀ b : Word, b ≠ a → (s.memWrite a v).memRead b = s.memRead b

/-- The stack primitives on the default map (41 R140, R141, R143). -/
def Obligations.StackPrimitivesUsePageOne : Prop :=
  ∀ (s : State) (b : Byte) (w : Word), DefaultMap s.params →
    s.push b = { s with mem := s.mem.write (256 + s.sp.toNat) b, sp := s.sp - 1 } ∧
      s.popValue = s.mem.read (256 + (s.sp + 1).toNat) ∧ s.popped = { s with sp := s.sp + 1 } ∧
      s.push16 w =
        { s with
          mem := (s.mem.write (256 + s.sp.toNat) (hiByte w)).write (256 + (s.sp - 1).toNat) (loByte w)
          sp := s.sp - 2 } ∧
      s.pop16Value = wordOf (s.mem.read (256 + (s.sp + 2).toNat)) (s.mem.read (256 + (s.sp + 1).toNat)) ∧
      s.popped16 = { s with sp := s.sp + 2 }

/-- The addressing modes as numbers (30 R104 to R114). -/
def Obligations.AddressingModesWrapAsStated : Prop :=
  ∀ (s : State) (b b1 b2 : Byte) (base : Word),
    (wordOf b2 b1).toNat = 256 * b2.toNat + b1.toNat ∧
    (zpAddr b).toNat = b.toNat ∧
    (s.zpxAddr b).toNat = (b.toNat + s.x.toNat) % 256 ∧
    (s.zpyAddr b).toNat = (b.toNat + s.y.toNat) % 256 ∧
    (s.abxAddr base).toNat = (base.toNat + s.x.toNat) % 65536 ∧
    (s.abyAddr base).toNat = (base.toNat + s.y.toNat) % 65536 ∧
    s.izxAddr b = wordOf (s.memRead (zpAddr (b + s.x + 1))) (s.memRead (zpAddr (b + s.x))) ∧
    s.izyAddr b = wordOf (s.memRead (zpAddr (b + 1))) (s.memRead (zpAddr b)) + zext16 s.y ∧
    ((s.branchTarget b).toNat : Int) = ((s.pc.toNat : Int) + 2 + b.toInt) % 65536 ∧
    s.indTarget (wordOf b2 b1) =
      wordOf
        (if s.params.jmpIndWrap then s.memRead (wordOf b2 (b1 + 1)) else s.memRead (wordOf b2 b1 + 1))
        (s.memRead (wordOf b2 b1)) ∧
    ∀ a : Word,
      s.penalty base a = if s.params.pagePenalty = true ∧ base.toNat / 256 ≠ a.toNat / 256 then 1 else 0

/-- V reports the signed outcome (42 R151, R152, R162). -/
def Obligations.OverflowIsSigned : Prop :=
  ∀ a m p : Byte,
    (flagV (adcStatus a m p) = true ↔
      a.toInt + m.toInt + (flagC p).toNat < -128 ∨ 127 < a.toInt + m.toInt + (flagC p).toNat) ∧
    (flagV (adcStatus a (m ^^^ 0xFF) p) = true ↔
      a.toInt - m.toInt - (1 - (flagC p).toNat) < -128 ∨ 127 < a.toInt - m.toInt - (1 - (flagC p).toNat))

/-- D and I are stored bits that no rule reads (42 R150, 60 R376, 10 R27). -/
def Obligations.DecimalAndInterruptFlagsAreUnread : Prop :=
  ∀ (i : Instr) (s t : State), i.mnemonic ∉ [Mnemonic.php, .brk, .plp, .rti] → exec i s = .next t →
    (i.mnemonic ∉ [Mnemonic.sed, .cld] →
      exec i { s with p := s.p ^^^ 0x08 } = .next { t with p := t.p ^^^ 0x08 }) ∧
    (i.mnemonic ∉ [Mnemonic.sei, .cli] →
      exec i { s with p := s.p ^^^ 0x04 } = .next { t with p := t.p ^^^ 0x04 })

/-- The memory frame of every instruction (20 R67 to R69). -/
def Obligations.BytesOutsideStoredAddressesKept : Prop :=
  ∀ (i : Instr) (s t : State), exec i s = .next t →
    (∀ a : Word, a ∉ storedAt i s → t.memRead a = s.memRead a) ∧
    (∀ k : Nat, (∀ a ∈ storedAt i s, k ≠ a.toNat) → t.mem.read k = s.mem.read k) ∧
    ((∀ a ∈ storedAt i s, windowOffset s.params a = none) → t.cache = s.cache ∧ t.engine = s.engine)

/-- The register frame of every instruction (10 R21 to R24). -/
def Obligations.OnlyNamedInstructionsWriteRegisters : Prop :=
  ∀ (i : Instr) (s t : State), exec i s = .next t →
    (¬ writesA i → t.a = s.a) ∧ (¬ writesX i → t.x = s.x) ∧ (¬ writesY i → t.y = s.y) ∧ (¬ writesSP i → t.sp = s.sp)

/-- The flag frame of every instruction (10 R25, R27). -/
def Obligations.OnlyNamedInstructionsWriteFlags : Prop :=
  ∀ (i : Instr) (s t : State), exec i s = .next t →
    (¬ writesNZ i → flagN t.p = flagN s.p ∧ flagZ t.p = flagZ s.p) ∧ (¬ writesV i → flagV t.p = flagV s.p) ∧
    (¬ writesD i → flagD t.p = flagD s.p) ∧ (¬ writesI i → flagI t.p = flagI s.p) ∧
    (¬ writesC i → flagC t.p = flagC s.p) ∧
    (if i.mnemonic = .plp ∨ i.mnemonic = .rti then StatusOk t.p else t.p &&& 0x30 = s.p &&& 0x30)

/-- What an instruction cannot change (49 R340). -/
def Obligations.InstructionsKeepHostSideState : Prop :=
  ∀ (i : Instr) (s t : State), exec i s = .next t →
    t.song = s.song ∧ t.play = s.play ∧ t.params = s.params ∧ t.ctl = s.ctl ∧ EngineClockKept s.engine t.engine ∧
      t.task = s.task ∧ t.calls = s.calls ∧ t.out = s.out ∧ t.callbacks = s.callbacks ∧ t.loadResult = s.loadResult ∧
      (i.mnemonic ≠ .unsupported → t.unsupCount = s.unsupCount ∧ t.events = s.events)

/-- RTI is the return for a BRK frame (60 R375, which the spec marks as derived from R374 and R203); the plus one of RTS undoes
the minus one of JSR (44 R201, R202). -/
def Obligations.ReturnsUndoCalls : Prop :=
  (∀ s t w u : State, DefaultMap s.params → s.mem.wf = true → StatusOk s.p → exec .brk s = .next t →
      w.params = t.params → w.sp = t.sp → (∀ a ∈ storedAt .brk s, w.memRead a = t.memRead a) →
      exec .rti w = .next u → u.pc = s.pc + 2 ∧ u.p = s.p ∧ u.sp = s.sp) ∧
    ∀ (s t w u : State) (addr : Word), DefaultMap s.params → s.mem.wf = true → exec (.jsr addr) s = .next t →
      w.params = t.params → w.sp = t.sp → (∀ a ∈ storedAt (.jsr addr) s, w.memRead a = t.memRead a) →
      exec .rts w = .next u → u.pc = s.pc + 3 ∧ u.sp = s.sp

/-- The core's reset (45 R223), the construction column of 10 R42 and the defaults of 00 R6; the sample rate (log 4), MAX_CYCLES
(log 2) and the model's own fields (log 27, log 32) are left out. -/
def Obligations.ConstructionValues : Prop :=
  (∀ s : State,
      s.coreReset =
        { s with
          a := s.params.resetA
          x := s.params.resetX
          y := s.params.resetY
          sp := s.params.resetSP
          p := s.params.resetP
          pc := s.params.resetPC }) ∧
    (State.reset.a, State.reset.x, State.reset.y, State.reset.sp, State.reset.p, State.reset.pc) =
      (0x00, 0x00, 0x00, 0xFD, 0x24, 0x0000) ∧
    (∀ a : Word, State.reset.memRead a = 0x00) ∧ (∀ k : Nat, State.reset.mem.read k = 0x00) ∧
    (∀ o : Fin 32, State.reset.cache.shadow[o] = 0x00) ∧
    (∀ v, State.reset.cache.prevGate.get v = false ∧ State.reset.cache.baseFreq.get v = 0) ∧
    (∀ v, State.reset.engine.voices.get v =
      { wave := 0, pw := 0, phase := TemperedReal.ofNumber (.rat 0), lfsr := 0x7FFFF8, test := false, sync := false,
        ring := false, stage := .idle, level := .rat 0, att := 0, dec := 0, sus := 0, rel := 0, gate := false, note := 0,
        vel := 0, hz := TemperedReal.ofNumber (.rat 0), ratio := .rat 1 }) ∧
    State.reset.engine.cutoff = .rat 0 ∧ State.reset.engine.res = .rat 0 ∧ State.reset.engine.mode = .off ∧
    (∀ v, State.reset.engine.route.get v = false) ∧ State.reset.engine.low = FilterReal.zero ∧
    State.reset.engine.band = FilterReal.zero ∧ State.reset.engine.volume = 0 ∧
    (∀ i : Fin 32,
      State.reset.song.title[i] = 0x00 ∧ State.reset.song.author[i] = 0x00 ∧ State.reset.song.released[i] = 0x00) ∧
    State.reset.song.version = 0 ∧ State.reset.song.dataOffset = 0 ∧ State.reset.song.loadAddr = 0 ∧
    State.reset.song.initAddr = 0 ∧ State.reset.song.playAddr = 0 ∧ State.reset.song.loadEnd = 0 ∧
    State.reset.song.songs = 0 ∧ State.reset.song.defaultSong = 0 ∧ State.reset.song.speed = 0 ∧
    State.reset.song.loaded = false ∧
    State.reset.play =
      { playing := false, subsong := 0, acc := .rat 0, elapsedMs := .rat 0, timing := .slow, playEff := 0 } ∧
    State.reset.unsupCount = 0 ∧
    State.reset.ctl.mute = PerVoice.all false ∧ State.reset.ctl.gain = .rat 1 ∧
    State.reset.ctl.loopDetectionDisabled = false ∧
    State.reset.params =
      { dropped := [], unsupLen := defaultUnsupLen, unsupCycles := 2, cycles := defaultCycles, pagePenalty := true,
        resetA := 0x00, resetX := 0x00, resetY := 0x00, resetSP := 0xFD, resetP := 0x24, resetPC := 0x0000,
        jmpIndWrap := true, stackPage := 0x0100, brkVector := 0xFFFE, winBase := 0xD400, winSize := 32,
        clockRatio := .rat (596 / 10000), hzMin := .rat 20, hzMax := .rat 20000, velocity := 127, pitchTrack := false,
        modePriority := [.lp, .bp, .hp], attackS := defaultAttackS, decRelS := defaultDecRelS,
        filter := .stateVariable, mixScale := .rat (1 / 3), num := .exact, frameRateSlow := .rat 50, frameRateFast := .rat 60,
        slowIsDefault := true, sentinelPC := 0xFFFF, maxCycles := State.reset.params.maxCycles,
        spGuard := .aboveEntry, vecSearch := [0x0314, 0xFFFE], headerSize := 118,
        sampleRate := State.reset.params.sampleRate }

/-- The invariants of the three statements after this one, at construction. They rest on the sample rate at reset, the model's
choice (log 4). -/
def Obligations.InvariantsHoldAtReset : Prop :=
  Inv State.reset ∧ EngineInv State.reset ∧ AccInv State.reset

/-- The invariant of the live status (10 R25) and of the canonical memory, kept by every step. The canonical form, and the shadow
bytes from offset 32 on (log 32), are the model's. -/
def Obligations.EveryStepKeepsMemoryAndStatus : Prop :=
  ∀ s t : State, Inv s → step s = .next t → Inv t

/-- The bounds of 10 R37, R38 and of 47 R292, kept by every step. -/
def Obligations.EveryStepKeepsEngineBounds : Prop :=
  ∀ s t : State, EngineInv s → step s = .next t → EngineInv t

/-- The accumulator property of 49 R346, kept by every step, in floating point too where `spf` is an integer below 2^24. That every
domain holds the integers below 2^24 is the model's reading of 49 R346 (log 34). -/
def Obligations.EveryStepKeepsAccumulatorBounds : Prop :=
  ∀ s t : State, AccInv s → step s = .next t → AccInv t

/-- No drift (49 R346): the accumulator and the chip frames account for every output frame, in floating point too where `spf` is an
integer below 2^24. That every domain holds the integers below 2^24 is the model's reading of 49 R346 (log 34). -/
def Obligations.OutputFramesAreAllAccountedFor : Prop :=
  (∀ s t : State, s.params.num = .exact → 0 < s.params.frameRateSlow.toReal →
      0 < s.params.frameRateFast.toReal → 0 < s.params.sampleRate.toReal → s.play.playing = true → inProcess s.task = true → step s = .next t →
      t.play.playing = true ∧
        framesAccounted t = framesAccounted s + (match s.task with | .frame _ => 1 | _ => 0)) ∧
    ∀ (s t : State) (left : Nat), AccInv s → s.play.playing = true → s.task = .frame left → step s = .next t →
      s.samplesPerFrame.toReal = s.params.sampleRate.toReal / s.frameRate.toReal ∧
        (s.play.acc.toReal + 1 < s.samplesPerFrame.toReal →
          t.play.acc.toReal = s.play.acc.toReal + 1 ∧
            t = { s with play := { s.play with acc := t.play.acc }, task := .sample left }) ∧
        (s.samplesPerFrame.toReal ≤ s.play.acc.toReal + 1 →
          t.play.acc.toReal = s.play.acc.toReal + 1 - s.samplesPerFrame.toReal ∧
            if s.play.playEff = 0 then
              t.task = .sample left ∧
                t.play.elapsedMs = s.params.num.add s.play.elapsedMs (s.params.num.div (.rat 1000) s.frameRate)
            else t.task = .burst (.play left) s.sp 0 ∧ t.pc = s.play.playEff)

/-- Totality (60 R373, R386). The refusal at a sample rate that is not positive is the model's choice (log 13). -/
def Obligations.EveryInstructionAndStepAnswers : Prop :=
  (∀ (i : Instr) (s : State), ∃ t, exec i s = .next t) ∧
    ∀ s : State, 0 < s.params.sampleRate.toReal → ∃ t, step s = .next t

/-- A burst makes at most MAX_CYCLES steps (49 R336, R353) and cannot change the host's side (49 R340). -/
def Obligations.BurstEndsWithinBudget : Prop :=
  ∀ (s : State) (caller : Caller) (spIn : Byte) (used : Nat), s.task = .burst caller spIn used →
    s.params.cyclesOk = true →
    ∃ k t how, k ≤ s.params.maxCycles - used + 1 ∧ Sys2Proof.core.run k s = .next t ∧
      t.task = .burstDone caller how ∧ t.song = s.song ∧ t.play = s.play ∧ t.params = s.params ∧ t.ctl = s.ctl ∧
      EngineClockKept s.engine t.engine

/-- start() up to the first step of the init burst, on the default map (49 R332, R334, R350). -/
def Obligations.StartEntersInitRoutine : Prop :=
  ∀ s : State,
    (s.song.loaded = false → s.beginCall .start = .next s) ∧
    (s.song.loaded = true → 0 < s.params.sampleRate.toReal → s.play.playing = true →
      s.beginCall .start = s.stopPlayback.beginCall .start) ∧
    (s.song.loaded = true → 0 < s.params.sampleRate.toReal → s.play.playing = false → DefaultMap s.params →
      s.beginCall .start = .next
        { s with
          a := BitVec.ofNat 8 s.play.subsong
          x := s.params.resetX
          y := s.params.resetY
          sp := s.params.resetSP - 2
          p := s.params.resetP
          pc := if s.song.initAddr = 0 then s.song.loadAddr else s.song.initAddr
          mem :=
            (s.mem.write (256 + s.params.resetSP.toNat) (hiByte (s.params.sentinelPC - 1))).write
              (256 + (s.params.resetSP - 1).toNat) (loByte (s.params.sentinelPC - 1))
          engine := { s.engine with fs := s.params.sampleRate }
          play :=
            { s.play with
              acc := .rat 0
              elapsedMs := .rat 0
              timing := timingOf s.params s.song.speed s.play.subsong }
          task := .burst .init s.params.resetSP 0 })

/-- The end of start() and Discover() (49 R332, R341, R342). The record of E6 in `events` is the model's choice (log 11). -/
def Obligations.InitBurstEndAdoptsPlayAddress : Prop :=
  ∀ (s : State) (how : BurstEnd) (v0 v1 : Word), s.task = .burstDone .init how → s.params.vecSearch = [v0, v1] →
    let w0 := wordOf (s.mem.read (v0 + 1).toNat) (s.mem.read v0.toNat)
    let w1 := wordOf (s.mem.read (v1 + 1).toNat) (s.mem.read v1.toNat)
    let inProgram := fun w : Word => s.song.loadAddr.toNat ≤ w.toNat ∧ w.toNat < s.song.loadEnd
    let eff := if s.song.playAddr ≠ 0 then s.song.playAddr else if inProgram w0 then w0 else if inProgram w1 then w1 else 0
    step s = .next
      { s with
        play := { s.play with playEff := eff, playing := true }
        events := if eff = 0 then .noPlayRoutine :: s.events else s.events
        task := .idle }

/-- TimingOf (49 R333). -/
def Obligations.TimingFollowsSpeedMask : Prop :=
  ∀ (s : State) (speed : BitVec 32) (n : Nat),
    (speed = 0 → timingOf s.params speed n = if s.params.slowIsDefault then .slow else .fast) ∧
    (speed ≠ 0 → timingOf s.params speed n = if speed.toNat.testBit (min n 31) then .fast else .slow) ∧
    s.frameRate = if s.play.timing = .slow then s.params.frameRateSlow else s.params.frameRateFast

/-- An output frame up to its engine sample (49 R344, R347, R351). In a rounding domain each result is rounded (log 29), and a
quotient by a frame rate of 0 is a free value (log 31); the record of the callbacks is the model's own (log 11). -/
def Obligations.OutputFrameBeginsAsStated : Prop :=
  ∀ (s : State) (left : Nat),
    let num := s.params.num
    let spf : Number := num.div s.params.sampleRate s.frameRate
    let acc : Number := num.add s.play.acc (.rat 1)
    let elapsed : Number := num.add s.play.elapsedMs (num.div (.rat 1000) s.frameRate)
    let called := if s.ctl.callbackBound then (s.play.subsong, elapsed) :: s.callbacks else s.callbacks
    (s.task = .frame left → s.play.playing = false → step s = .next { s with task := .sample left }) ∧
    (s.task = .frame left → s.play.playing = true → acc.toReal < spf.toReal →
      step s = .next { s with play := { s.play with acc := acc }, task := .sample left }) ∧
    (s.task = .frame left → s.play.playing = true → spf.toReal ≤ acc.toReal → s.play.playEff = 0 →
      step s = .next
        { s with
          play := { s.play with acc := num.sub acc spf, elapsedMs := elapsed }
          callbacks := called
          task := .sample left }) ∧
    (s.task = .frame left → s.play.playing = true → spf.toReal ≤ acc.toReal → s.play.playEff ≠ 0 → DefaultMap s.params →
      step s = .next
        { s with
          play := { s.play with acc := num.sub acc spf }
          mem :=
            (s.mem.write (256 + s.sp.toNat) (hiByte (s.params.sentinelPC - 1))).write (256 + (s.sp - 1).toNat)
              (loByte (s.params.sentinelPC - 1))
          sp := s.sp - 2
          pc := s.play.playEff
          task := .burst (.play left) s.sp 0 }) ∧
    ∀ how, s.task = .burstDone (.play left) how →
      step s = .next
        { s with play := { s.play with elapsedMs := elapsed }, callbacks := called, task := .sample left }

/-- The engine sample of an output frame (48 R320 to R323). The output buffer is a field of the model (log 11); in a rounding
domain the product with the gain is rounded (log 29). -/
def Obligations.OutputFrameEndsWithOneSample : Prop :=
  ∀ (s : State) (left : Nat), s.task = .sample left →
    ∃ m : FilterReal,
      step s = .next
        { s with
          engine := (s.engine.processOneSample s.params s.ctl.mute).engine
          out := s.out ++ [s.params.num.filterMul s.ctl.gain m, s.params.num.filterMul s.ctl.gain m]
          task := if left ≤ 1 then .idle else .frame (left - 1) } ∧
      m = (s.engine.processOneSample s.params s.ctl.mute).left ∧
      (s.engine.processOneSample s.params s.ctl.mute).engine =
        { s.engine with
          voices := s.engine.advanceVoices s.params
          low := (s.engine.processOneSample s.params s.ctl.mute).engine.low
          band := (s.engine.processOneSample s.params s.ctl.mute).engine.band }

/-- stop() (49 R348). -/
def Obligations.StopReleasesVoices : Prop :=
  ∀ s : State,
    s.beginCall .stop = .next
      { s with
        engine :=
          { s.engine with
            voices :=
              PerVoice.ofFn fun v =>
                { s.engine.voices.get v with
                  gate := false
                  stage := if (s.engine.voices.get v).stage = .idle then .idle else .release } }
        play := { s.play with playing := false, acc := .rat 0, elapsedMs := .rat 0 } }

/-- select_subsong (49 R349). -/
def Obligations.SelectSubsongTakesEffect : Prop :=
  ∀ (s : State) (n : Nat),
    let t : State := { s with play := { s.play with subsong := n, timing := timingOf s.params s.song.speed n } }
    (s.song.loaded = false ∨ max s.song.songs.toNat 1 ≤ n → s.beginCall (.selectSubsong n) = .next s) ∧
    (s.song.loaded = true → n < max s.song.songs.toNat 1 → s.play.playing = false →
      s.beginCall (.selectSubsong n) = .next t) ∧
    (s.song.loaded = true → n < max s.song.songs.toNat 1 → s.play.playing = true → 0 < s.params.sampleRate.toReal →
      s.beginCall (.selectSubsong n) = t.stopPlayback.beginCall .start)

/-- Load failure (70 R405, R412). The result and the event E5 are recorded in fields of the model (log 11); a
byte of a field beyond the file's end is a free value (log 30), and that E5 is raised for the third failure too is the
model's reading (log 36). -/
def Obligations.LoadFailsOnlyOnBadFiles : Prop :=
  ∀ (s : State) (file : List Byte),
    let byte := fun o : Nat => file.getD o (Config.missingByte o)
    let off := 256 * (byte 6).toNat + (byte 7).toNat
    let start := if s.params.headerSize ≤ off ∧ off ≤ file.length then off else s.params.headerSize
    let bad :=
      file.length < s.params.headerSize ∨
        (file.take 4 ≠ [0x50, 0x53, 0x49, 0x44] ∧ file.take 4 ≠ [0x52, 0x53, 0x49, 0x44]) ∨
        (byte 8 = 0 ∧ byte 9 = 0 ∧ file.length < start + 2)
    (bad → s.beginCall (.load file) = .next { s with events := .loadError :: s.events, loadResult := some false }) ∧
    (¬ bad → ∃ t, s.beginCall (.load file) = .next t ∧ t.loadResult = some true)

/-- A successful load in terms of the file's bytes (70 R411, R413 to R416). Version and data offset are stored as they stand in
the file (log 18); a byte of a field beyond the file's end is a free value (log 30). -/
def Obligations.LoadCopiesImage : Prop :=
  ∀ (s : State) (file : List Byte),
    let byte := fun o : Nat => file.getD o (Config.missingByte o)
    let field := fun o : Nat => wordOf (byte o) (byte (o + 1))
    let text := fun o : Nat => Vector.ofFn fun i : Fin 32 => byte (o + i.val)
    let size := s.params.headerSize
    let off := if size ≤ (field 0x06).toNat ∧ (field 0x06).toNat ≤ file.length then (field 0x06).toNat else size
    let embedded := field 0x08 = 0
    let base := if embedded then wordOf (byte (off + 1)) (byte off) else field 0x08
    let payload := file.drop (if embedded then off + 2 else off)
    let n := min payload.length (65536 - base.toNat)
    let start := if field 0x10 = 0 then 0 else min ((field 0x10).toNat - 1) (max (field 0x0E).toNat 1 - 1)
    size ≤ file.length → (file.take 4 = [0x50, 0x53, 0x49, 0x44] ∨ file.take 4 = [0x52, 0x53, 0x49, 0x44]) →
    (embedded → off + 2 ≤ file.length) →
    ∃ t, s.beginCall (.load file) = .next t ∧
      (∀ k, k < n → t.mem.read (base.toNat + k) = payload.getD k 0) ∧
      (∀ a, a < base.toNat ∨ base.toNat + n ≤ a → t.mem.read a = 0x00) ∧ t.mem.wf = true ∧
      t.song =
        { title := text 0x16, author := text 0x36, released := text 0x56, version := field 0x04,
          dataOffset := field 0x06, loadAddr := base, initAddr := field 0x0A, playAddr := field 0x0C,
          loadEnd := base.toNat + n, songs := field 0x0E, defaultSong := start,
          speed := field 0x12 ++ field 0x14, loaded := true } ∧
      t.play =
        { playing := false, subsong := start, acc := .rat 0, elapsedMs := .rat 0,
          timing := timingOf s.params (field 0x12 ++ field 0x14) start, playEff := field 0x0C } ∧
      t.cache = resetCache ∧ t.engine = resetEngine s.engine.fs ∧
      (t.a, t.x, t.y, t.sp, t.p, t.pc) = (s.a, s.x, s.y, s.sp, s.p, s.pc) ∧ t.ctl = s.ctl ∧ t.params = s.params ∧
      t.task = s.task ∧ t.calls = s.calls ∧ t.unsupCount = s.unsupCount ∧ t.events = s.events

/-- The host's calls (00 R8, 49 R331), the start of process(count) (48 R321, R326) and the host's setters. The queue, the buffer's
place, the refusal and the callback flag are the model's choices (log 7, log 11, log 13, log 16, log 20). -/
def Obligations.HostCallsBeginFromQueue : Prop :=
  ∀ s : State,
    (s.task = .idle → s.calls = [] → step s = .next s) ∧
    (∀ c rest, s.task = .idle → s.calls = c :: rest → step s = ({ s with calls := rest } : State).beginCall c) ∧
    (∀ count : Nat, 0 < s.params.sampleRate.toReal →
      s.beginCall (.process count) =
        .next { s with out := [], task := if count = 0 then .idle else .frame count }) ∧
    (∀ count : Nat, ¬ 0 < s.params.sampleRate.toReal →
      s.beginCall (.process count) = .refused .invalidSampleRate) ∧
    (∀ v on, s.beginCall (.setMute v on) = .next { s with ctl := { s.ctl with mute := s.ctl.mute.set v on } }) ∧
    (∀ g, s.beginCall (.setGain g) = .next { s with ctl := { s.ctl with gain := g } }) ∧
    (∀ off, s.beginCall (.setLoopDetectionDisabled off) =
      .next { s with ctl := { s.ctl with loopDetectionDisabled := off } }) ∧
    ∀ bound, s.beginCall (.bindCallback bound) = .next { s with ctl := { s.ctl with callbackBound := bound } }

/-- The latches and the unnamed offsets (46 R236, R237, R250; 10 R35). -/
def Obligations.LatchWritesCallNothing : Prop :=
  ∀ (s : State) (a : Word) (o : Fin 32) (b : Byte), windowOffset s.params a = some o.val →
    ((o.val ≤ 20 ∧ o.val % 7 ≤ 3) ∨ 25 ≤ o.val →
      s.memWrite a b = { s with cache := { s.cache with shadow := s.cache.shadow.set o b } }) ∧
    ∀ v : VoiceId,
      (s.cache.freq16 v).toNat = 256 * (s.cache.voiceByte v 1).toNat + (s.cache.voiceByte v 0).toNat ∧
        (s.cache.pw12 v).toNat = 256 * ((s.cache.voiceByte v 3).toNat % 16) + (s.cache.voiceByte v 2).toNat

/-- The control byte (46 R238 to R244). In a rounding domain each result is rounded (log 29). With PITCH_TRACK, the gate held and a
latched frequency of 0 the ratio becomes 0 (log 22), and a frequency not above 0 has a free note (log 31): the model's
choices. -/
def Obligations.ControlWriteDecodes : Prop :=
  ∀ (s : State) (a : Word) (o : Fin 32) (v : VoiceId) (b : Byte), windowOffset s.params a = some o.val → o.val = 7 * v.val + 4 →
    let c := s.cache
    let f := c.freq16 v
    let num := s.params.num
    let hz : Number := num.mul (.nat f.toNat) s.params.clockRatio
    let w : Voice :=
      { s.engine.voices.get v with
        wave := b.extractLsb' 4 4
        test := b.getLsbD 3
        ring := b.getLsbD 2
        sync := b.getLsbD 1
        pw := c.pw12 v }
    let w' : Voice :=
      match c.prevGate.get v, b.getLsbD 0 with
      | false, true =>
        if s.params.hzMin.toReal ≤ hz.toReal ∧ hz.toReal ≤ s.params.hzMax.toReal then
          { w with
            note := noteIn num hz
            vel := s.params.velocity
            hz := num.ofTempered (noteHz (noteIn num hz))
            ratio := .rat 1
            gate := true
            stage := .attack }
        else w
      | true, false => { w with gate := false, stage := if w.stage = .idle then .idle else .release }
      | true, true =>
        if s.params.pitchTrack = true ∧ c.baseFreq.get v ≠ 0 then
          { w with ratio := num.div (.nat f.toNat) (.nat (c.baseFreq.get v).toNat) }
        else w
      | false, false => w
    s.memWrite a b =
      { s with
        cache :=
          { shadow := c.shadow.set o b
            more := c.more
            prevGate := c.prevGate.set v (b.getLsbD 0)
            baseFreq :=
              match c.prevGate.get v, b.getLsbD 0 with
              | false, true => c.baseFreq.set v f
              | true, false => c.baseFreq.set v 0
              | true, true => c.baseFreq
              | false, false => c.baseFreq }
        engine := { s.engine with voices := s.engine.voices.set v w' } }

/-- The envelope, filter and volume registers (46 R245 to R249). In a rounding domain each result is rounded (log 29). -/
def Obligations.ParameterWritesDecode : Prop :=
  ∀ (s : State) (a : Word) (o : Fin 32) (b : Byte), windowOffset s.params a = some o.val →
    let c := { s.cache with shadow := s.cache.shadow.set o b }
    (∀ v : VoiceId, o.val = 7 * v.val + 5 →
      s.memWrite a b =
        { s with
          cache := c
          engine :=
            { s.engine with
              voices :=
                s.engine.voices.set v
                  { s.engine.voices.get v with att := b.extractLsb' 4 4, dec := b.extractLsb' 0 4 } } }) ∧
    (∀ v : VoiceId, o.val = 7 * v.val + 6 →
      s.memWrite a b =
        { s with
          cache := c
          engine :=
            { s.engine with
              voices :=
                s.engine.voices.set v
                  { s.engine.voices.get v with sus := b.extractLsb' 4 4, rel := b.extractLsb' 0 4 } } }) ∧
    (o.val = 0x15 ∨ o.val = 0x16 →
      s.memWrite a b =
        { s with
          cache := c
          engine :=
            { s.engine with
              cutoff :=
                s.params.num.div (.nat (8 * (c.shadow[0x16]).toNat + (c.shadow[0x15]).toNat % 8)) (.rat 2047) } }) ∧
    (o.val = 0x17 →
      s.memWrite a b =
        { s with
          cache := c
          engine :=
            { s.engine with
              res := s.params.num.div (.nat (b.toNat / 16)) (.rat 15)
              route := { v0 := b.getLsbD 0, v1 := b.getLsbD 1, v2 := b.getLsbD 2 } } }) ∧
    (o.val = 0x18 → s.params.modePriority = [.lp, .bp, .hp] →
      s.memWrite a b =
        { s with
          cache := c
          engine :=
            { s.engine with
              mode :=
                if b.getLsbD 4 then .lp else if b.getLsbD 5 then .bp else if b.getLsbD 6 then .hp else .off
              volume := b.extractLsb' 0 4 } })

/-- The note conversion and its inverse over the reals (46 R243, 47 R281). A tie of the rounding would round up here and away from
zero in 00 R14; after the clamp the two agree. How reals are held is the model's choice (log 5, log 37). -/
def Obligations.NoteIsNearestTemperedNote : Prop :=
  (∀ hz : Number, 0 < hz.toReal → ((noteIn .exact hz).val : Int) = realNote hz.toReal) ∧
    ∀ n : Fin 128, (NumDomain.exact.ofTempered (noteHz n)).toReal = 440 * (2 : ℝ) ^ (((n.val : ℝ) - 69) / 12)

/-- The exact arithmetic of frequencies and phases over the reals (47 R303). How reals are held is the model's choice (log 5,
log 37). -/
def Obligations.FrequenciesAndPhasesAreReals : Prop :=
  (∀ x : TemperedReal, x.floor = ⌊x.toReal⌋ ∧ x.frac.toReal = x.toReal - ⌊x.toReal⌋) ∧
    (∀ x y : TemperedReal, (x.add y).toReal = x.toReal + y.toReal) ∧
    (∀ (q : Number) (x : TemperedReal), (x.scale q).toReal = q.toReal * x.toReal) ∧
    ∀ (x : TemperedReal) (q : Number), q.toReal ≠ 0 → (x.divide q).toReal = x.toReal / q.toReal

/-- FILTER (47 R300): the default and a replacement over the reals, and the requirements on any replacement. How reals and
replacements are held (log 6, log 28, log 37), and that 0 is a number of every domain (log 29, log 34), are the model's
choices. -/
def Obligations.FilterStepOverReals : Prop :=
  (∀ (p : Params) (i : FilterIn FilterReal Number), p.filter = .stateVariable → p.num = .exact → i.fs.toReal ≠ 0 →
      let r := runFilter p i
      let a := i.toReal
      let F : ℝ := 2 * Real.sin (Real.pi * (min (30 + a.cutoff * 11970) (a.fs / 6) / a.fs))
      let high : ℝ := a.x - r.low.toReal - (1.4 - 1.3 * a.res) * a.band
      r.low.toReal = a.low + F * a.band ∧ r.band.toReal = a.band + F * high ∧
        r.y.toReal =
          match i.mode with
          | .lp => r.low.toReal
          | .bp => r.band.toReal
          | .hp => high
          | .off => 0) ∧
    (∀ (p : Params) (i : FilterIn FilterReal Number) (n : Nat), p.filter = .replacement n → p.num = .exact →
      (runFilter p i).toReal = openReals.filter n i.toReal) ∧
    ∀ (p : Params) (i : FilterIn FilterReal Number),
      (IsZero p.num i.x → IsFilterZero p.num i.low → IsFilterZero p.num i.band →
        IsFilterZero p.num (runFilter p i).low ∧ IsFilterZero p.num (runFilter p i).band ∧
          IsFilterZero p.num (runFilter p i).y) ∧
      (i.mode = .off → (runFilter p i).y = FilterReal.zero)

/-- The envelope bound of 47 R292, with no setter called between the samples. -/
def Obligations.ReleaseReachesIdle : Prop :=
  ∀ (p : Params) (mute : PerVoice Bool) (e : Engine) (v : VoiceId) (n : Nat), p.num = .exact → p.tablesOk = true →
    0 < e.fs.toReal →
    0 ≤ (e.voices.get v).level.toReal → (e.voices.get v).level.toReal ≤ 1 → 1 ≤ n →
    (nibbleEntry p.decRelS (e.voices.get v).rel).toReal * e.fs.toReal ≤ n →
    ((samples p mute n (e.noteOff v)).voices.get v).stage = .idle ∧
      ((samples p mute n (e.noteOff v)).voices.get v).level = .rat 0

/-- The properties (a), (b) and (d) of 47 R305. That 0 is a number of every domain is the model's choice (log 29, log 34). -/
def Obligations.SilenceProperties : Prop :=
  ∀ (p : Params) (mute : PerVoice Bool) (e : Engine),
    let r := e.processOneSample p mute
    r.left = r.right ∧
    (e.volume = 0 → IsFilterZero p.num r.left) ∧
    (Silent p.num mute r.engine → IsFilterZero p.num e.low → IsFilterZero p.num e.band →
      IsFilterZero p.num r.left ∧ IsFilterZero p.num r.engine.low ∧ IsFilterZero p.num r.engine.band)

/-- The per-sample advance (47 R293 to R296), over the reals (log 5, log 37). That a negative difference of floors clocks nothing is
the model's choice (log 35). -/
def Obligations.SampleAdvancesOscillators : Prop :=
  ∀ (p : Params) (mute : PerVoice Bool) (e : Engine) (v : VoiceId), p.num = .exact → 0 < e.fs.toReal →
    let w := e.voices.get v
    let n := e.voices.get (v + 2)
    let w' := (e.processOneSample p mute).engine.voices.get v
    let u : ℝ := w.phase.toReal + w.hz.toReal * w.ratio.toReal / e.fs.toReal
    let un : ℝ := n.phase.toReal + n.hz.toReal * n.ratio.toReal / e.fs.toReal
    (w.test = true → w'.phase.toReal = 0 ∧ w'.lfsr = 0x7FFFF8) ∧
    (w.test = false →
      w'.phase.toReal = (if w.sync = true ∧ n.test = false ∧ 1 ≤ un then 0 else u - ⌊u⌋) ∧
      w'.lfsr = lfsrClocks (⌊16 * u⌋ - ⌊16 * w.phase.toReal⌋).toNat w.lfsr) ∧
    w' = { w with phase := w'.phase, lfsr := w'.lfsr, stage := w'.stage, level := w'.level }

/-- The envelope's step over the reals (47 R291), in the first place of a sample (47 R302). -/
def Obligations.EnvelopeStepsAsStated : Prop :=
  ∀ (p : Params) (mute : PerVoice Bool) (e : Engine) (v : VoiceId), p.num = .exact → p.tablesOk = true → 0 < e.fs.toReal →
    let w := e.voices.get v
    let w' := (e.processOneSample p mute).engine.voices.get v
    let level : ℝ := w.level.toReal
    let S : ℝ := w.sus.toNat / 15
    let da : ℝ := 1 / ((p.attackS[w.att.toNat]'w.att.isLt).toReal * e.fs.toReal)
    let dd : ℝ := 1 / ((p.decRelS[w.dec.toNat]'w.dec.isLt).toReal * e.fs.toReal)
    let dr : ℝ := 1 / ((p.decRelS[w.rel.toNat]'w.rel.isLt).toReal * e.fs.toReal)
    let fallen : ℝ := if S < level then max S (level - dd) else level
    (w.stage = .idle → w'.level.toReal = 0 ∧ w'.stage = .idle) ∧
    (w.stage = .attack → 1 ≤ level + da → w'.level.toReal = 1 ∧ w'.stage = .decay) ∧
    (w.stage = .attack → level + da < 1 → w'.level.toReal = level + da ∧ w'.stage = .attack) ∧
    (w.stage = .decay → w'.level.toReal = fallen ∧ w'.stage = if fallen ≤ S then .sustain else .decay) ∧
    (w.stage = .sustain → w'.level.toReal = fallen ∧ w'.stage = .sustain) ∧
    (w.stage = .release → level - dr ≤ 0 → w'.level.toReal = 0 ∧ w'.stage = .idle) ∧
    (w.stage = .release → 0 < level - dr → w'.level.toReal = level - dr ∧ w'.stage = .release)

/-- The voice output and the mix (47 R297 to R302) over the reals (log 5, log 6, log 37), in the numbers of Safety.lean; an index
outside 0 to 4095 is taken modulo 4096 (log 35). -/
def Obligations.VoiceOutputAndMix : Prop :=
  ∀ (p : Params) (mute : PerVoice Bool) (e : Engine), p.num = .exact →
    let r := e.processOneSample p mute
    let vs := r.engine.voices
    let vo := outputNumber mute vs
    let sum := fun on : Bool =>
      (if e.route.get 0 = on then vo 0 else 0) + (if e.route.get 1 = on then vo 1 else 0) +
        (if e.route.get 2 = on then vo 2 else 0)
    let i := filterInput p mute vs e
    let f := runFilter p i
    i.toReal =
        { low := e.low.toReal, band := e.band.toReal, cutoff := e.cutoff.toReal, res := e.res.toReal, mode := e.mode,
          fs := e.fs.toReal, x := sum true } ∧
      r.left.toReal = (sum false + f.y.toReal) * (e.volume.toNat / 15) * p.mixScale.toReal ∧
      r.right = r.left ∧ r.engine.low = f.low ∧ r.engine.band = f.band
end

