-- ==== Sys2Proof/Laws/Binary32.lean ====
section
/-! SUPPORT. What a binary32 host buffer holds (48 R325). -/

namespace Sys2Proof.Machine

/-- A representable number is held as itself. -/
theorem nearestBinary32_self {x : ℝ} {y : Rat} (hy : IsBinary32 y) (h : x = ((y : ℚ) : ℝ)) : NearestBinary32 x y :=
  ⟨hy, fun z _ => by rw [h, sub_self, abs_zero]; exact abs_nonneg _⟩

/-- A representable number is held as nothing else. -/
theorem nearestBinary32_unique {x : ℝ} {y z : Rat} (hy : IsBinary32 y) (h : x = ((y : ℚ) : ℝ))
    (hz : NearestBinary32 x z) : z = y := by
  have h' := hz.2 y hy
  rw [h, sub_self, abs_zero] at h'
  exact_mod_cast (sub_eq_zero.mp (abs_nonpos_iff.mp h')).symm

/-- The buffer holds one value for each sample. -/
theorem holdsBinary32_length {out : List FilterReal} {buffer : List Rat} (h : HoldsBinary32 out buffer) :
    buffer.length = out.length := (List.Forall₂.length_eq h).symm

end Sys2Proof.Machine
end

