-- ==== Sys2Proof/Laws/Flags.lean ====
section
/-! SUPPORT. The bits of a status after each flag update, and the rule of each compound flag computation. -/

namespace Sys2Proof.Machine

/-- A bit of a status after the bits of `mask` were set to `b`. -/
theorem putBits_getLsbD (mask : Byte) (b : Bool) (p : Byte) (i : Nat) (h : i < 8) :
    (putBits mask b p).getLsbD i = if mask.getLsbD i then b else p.getLsbD i := by
  unfold putBits
  cases b
  · rw [if_neg Bool.false_ne_true, BitVec.getLsbD_and, BitVec.getLsbD_not]
    cases mask.getLsbD i <;> simp [h]
  · rw [if_pos rfl, BitVec.getLsbD_or]
    cases mask.getLsbD i <;> simp

/-- Outside its mask an update keeps the status. -/
theorem putBits_keeps (mask : Byte) (b : Bool) (p : Byte) : putBits mask b p &&& ~~~mask = p &&& ~~~mask := by
  ext i hi
  cases b <;> cases hm : mask[i] <;> simp [putBits, hm]

@[simp] theorem flagN_putN (b : Bool) (p : Byte) : flagN (putN b p) = b :=
  putBits_getLsbD _ b p _ (by decide)
@[simp] theorem flagV_putV (b : Bool) (p : Byte) : flagV (putV b p) = b :=
  putBits_getLsbD _ b p _ (by decide)
@[simp] theorem flagD_putD (b : Bool) (p : Byte) : flagD (putD b p) = b :=
  putBits_getLsbD _ b p _ (by decide)
@[simp] theorem flagI_putI (b : Bool) (p : Byte) : flagI (putI b p) = b :=
  putBits_getLsbD _ b p _ (by decide)
@[simp] theorem flagZ_putZ (b : Bool) (p : Byte) : flagZ (putZ b p) = b :=
  putBits_getLsbD _ b p _ (by decide)
@[simp] theorem flagC_putC (b : Bool) (p : Byte) : flagC (putC b p) = b :=
  putBits_getLsbD _ b p _ (by decide)

/-- `SetNZ`: each bit of the new status. -/
theorem setNZ_getLsbD (v p : Byte) (i : Nat) (h : i < 8) :
    (setNZ v p).getLsbD i = if i = 7 then v.getLsbD 7 else if i = 1 then decide (v = 0) else p.getLsbD i := by
  simp only [setNZ, putN, putZ, putBits_getLsbD _ _ _ _ h]
  have : i = 0 ∨ i = 1 ∨ i = 2 ∨ i = 3 ∨ i = 4 ∨ i = 5 ∨ i = 6 ∨ i = 7 := by omega
  rcases this with rfl | rfl | rfl | rfl | rfl | rfl | rfl | rfl <;> rfl

end Sys2Proof.Machine
end

