-- ==== Sys2Proof/Laws/Memory.lean ====
section
/-! SUPPORT. The laws of the backing array: reads after writes, and the canonical form. -/

namespace Sys2Proof.Machine

/-- A write leaves every other byte alone. -/
theorem Memory.read_write_of_ne (m : Memory) {a b : Nat} (v : Byte) (h : b ≠ a) :
    (Memory.write m a v).read b = Memory.read m b := by
  induction m with
  | nil =>
    unfold Memory.write
    split
    · rfl
    · simp [Memory.read, Ne.symm h]
  | cons c rest ih =>
    obtain ⟨k, w⟩ := c
    simp only [Memory.write]
    split
    · split
      · rfl
      · simp [Memory.read, Ne.symm h]
    · split
      · rename_i hk
        split <;> simp [Memory.read, ← hk, Ne.symm h]
      · simp only [Memory.read, ih]

/-- Below the first listed address every byte is unlisted. -/
theorem Memory.read_of_wfFrom {m : Memory} {lo a : Nat} (h : Memory.wfFrom lo m = true) (ha : a < lo) :
    Memory.read m a = Memory.unlisted := by
  induction m generalizing lo with
  | nil => rfl
  | cons c rest ih =>
    obtain ⟨k, w⟩ := c
    simp only [Memory.wfFrom, Bool.and_eq_true, decide_eq_true_eq] at h
    have hk : k ≠ a := by omega
    simp only [Memory.read, hk, if_false]
    exact ih h.2 (by omega)

theorem Memory.read_write_self_from (m : Memory) {lo : Nat} (a : Nat) (v : Byte) (h : Memory.wfFrom lo m = true) :
    (Memory.write m a v).read a = v := by
  induction m generalizing lo with
  | nil =>
    simp only [Memory.write]
    split
    · rename_i hv; simp [Memory.read, hv]
    · simp [Memory.read]
  | cons c rest ih =>
    obtain ⟨k, w⟩ := c
    have h' := h
    simp only [Memory.wfFrom, Bool.and_eq_true, decide_eq_true_eq] at h
    simp only [Memory.write]
    split
    · rename_i hk
      split
      · rename_i hv
        have hne : k ≠ a := by omega
        simp only [Memory.read, hne, if_false, hv]
        exact Memory.read_of_wfFrom h.2 (by omega)
      · simp [Memory.read]
    · split
      · rename_i hk
        split
        · rename_i hv
          rw [hv]; exact Memory.read_of_wfFrom h.2 (by omega)
        · simp [Memory.read]
      · rename_i hk
        simp only [Memory.read, Ne.symm hk, if_false]
        exact ih h.2

/-- In a canonical memory the byte that was written reads back. -/
theorem Memory.read_write_self (m : Memory) (a : Nat) (v : Byte) (h : m.wf = true) : (Memory.write m a v).read a = v :=
  Memory.read_write_self_from m a v h

/-- The canonical form from a higher address is one from a lower address. -/
theorem Memory.wfFrom_mono {m : Memory} {lo lo' : Nat} (h : Memory.wfFrom lo m = true) (hl : lo' ≤ lo) :
    Memory.wfFrom lo' m = true := by
  cases m with
  | nil => rfl
  | cons c rest =>
    obtain ⟨k, w⟩ := c
    simp only [Memory.wfFrom, Bool.and_eq_true, decide_eq_true_eq] at h ⊢
    exact ⟨⟨⟨by omega, h.1.1.2⟩, h.1.2⟩, h.2⟩

theorem Memory.write_wfFrom (m : Memory) {lo a : Nat} {v : Byte} (h : Memory.wfFrom lo m = true) (hl : lo ≤ a)
    (ha : a < Memory.size) : Memory.wfFrom lo (Memory.write m a v) = true := by
  induction m generalizing lo with
  | nil =>
    simp only [Memory.write]
    split
    · rfl
    · simp_all [Memory.wfFrom]
  | cons c rest ih =>
    obtain ⟨k, w⟩ := c
    have h' := h
    simp only [Memory.wfFrom, Bool.and_eq_true, decide_eq_true_eq] at h
    simp only [Memory.write]
    split
    · split
      · exact h'
      · simp only [Memory.wfFrom, Bool.and_eq_true, decide_eq_true_eq]
        exact ⟨⟨⟨hl, ha⟩, by assumption⟩, ⟨⟨by omega, h.1.1.2⟩, h.1.2⟩, h.2⟩
    · split
      · rename_i hk
        split
        · exact Memory.wfFrom_mono h.2 (by omega)
        · simp only [Memory.wfFrom, Bool.and_eq_true, decide_eq_true_eq]
          exact ⟨⟨⟨hl, ha⟩, by assumption⟩, hk ▸ h.2⟩
      · simp only [Memory.wfFrom, Bool.and_eq_true, decide_eq_true_eq]
        exact ⟨⟨⟨h.1.1.1, h.1.1.2⟩, h.1.2⟩, ih h.2 (by omega)⟩

/-- A write keeps the canonical form. -/
theorem Memory.write_wf (m : Memory) {a : Nat} {v : Byte} (h : m.wf = true) (ha : a < 65536) :
    (Memory.write m a v).wf = true :=
  Memory.write_wfFrom m h (Nat.zero_le a) ha

theorem Memory.ofImage_wfFrom (base : Nat) (bytes : List Byte) : Memory.wfFrom base (Memory.ofImage base bytes) = true := by
  induction bytes generalizing base with
  | nil => rfl
  | cons b rest ih =>
    simp only [Memory.ofImage]
    split
    · split
      · exact Memory.wfFrom_mono (ih _) (by omega)
      · simp only [Memory.wfFrom, Bool.and_eq_true, decide_eq_true_eq]
        exact ⟨⟨⟨Nat.le_refl _, by assumption⟩, by assumption⟩, ih _⟩
    · rfl

/-- The memory of an image is in canonical form. -/
theorem Memory.ofImage_wf (base : Nat) (bytes : List Byte) : (Memory.ofImage base bytes).wf = true :=
  Memory.wfFrom_mono (Memory.ofImage_wfFrom base bytes) (Nat.zero_le base)

/-- The empty memory is in canonical form and reads as 0x00. -/
theorem Memory.nil_wf : Memory.wf [] = true := rfl

@[simp] theorem Memory.read_nil (a : Nat) : Memory.read [] a = 0x00 := rfl

/-- What the memory of an image reads as: the image's byte below 0x10000, and 0x00 elsewhere. -/
theorem Memory.read_ofImage (base : Nat) (bytes : List Byte) (a : Nat) :
    (Memory.ofImage base bytes).read a = if base ≤ a ∧ a < Memory.size then bytes.getD (a - base) 0 else 0 := by
  induction bytes generalizing base with
  | nil => simp [Memory.ofImage]
  | cons b rest ih =>
    simp only [Memory.ofImage]
    by_cases hb : base < Memory.size
    · simp only [hb, if_true]
      by_cases ha : a = base
      · subst ha
        split
        · rename_i hu
          rw [Memory.read_of_wfFrom (Memory.ofImage_wfFrom _ _) (by omega)]
          simp [hu, hb]
        · simp [Memory.read, hb]
      · have hstep : (Memory.ofImage (base + 1) rest).read a =
            if base ≤ a ∧ a < Memory.size then (b :: rest).getD (a - base) 0 else 0 := by
          rw [ih]
          by_cases hc : base + 1 ≤ a
          · have e : a - base = (a - (base + 1)) + 1 := by omega
            simp [hc, show base ≤ a by omega, e]
          · simp [hc, show ¬ base ≤ a by omega]
        split
        · exact hstep
        · simp only [Memory.read, Ne.symm ha, if_false]; exact hstep
    · simp only [hb, if_false, Memory.read_nil]
      split
      · omega
      · rfl

end Sys2Proof.Machine
end

