-- ==== Sys2Proof/Laws/Numbers.lean ====
section
/-! SUPPORT. The numbers of the engine and the scheduler: the real number that each operation gives, that comparisons are
those of the real numbers, and what holds of the operations in every numeric domain. -/

namespace Sys2Proof.Machine

/-! ### The real number of a result -/

@[simp] theorem Number.toReal_rat (q : Rat) : (Number.rat q).toReal = (q : ℝ) := rfl

/-- An irrational value of a parameter is the real number that it is. -/
@[simp] theorem Number.toReal_irrational (n : Nat) : (Number.irrational n).toReal = openReals.irrational n := rfl

@[simp] theorem Number.toReal_nat (n : Nat) : (Number.nat n).toReal = (n : ℝ) := Rat.cast_natCast n

/-- What a number that is held as rational is. -/
theorem Number.eq_rat_of_rational {x : Number} {q : Rat} (h : x.rational = some q) : x = .rat q := by
  cases x <;> first | exact congrArg Number.rat (Option.some.inj h) | cases h

@[simp] theorem Number.toReal_add (x y : Number) : (x.add y).toReal = x.toReal + y.toReal := by
  unfold Number.add
  split
  · rename_i hx hy
    rw [eq_rat_of_rational hx, eq_rat_of_rational hy]
    exact Rat.cast_add _ _
  · rfl

@[simp] theorem Number.toReal_sub (x y : Number) : (x.sub y).toReal = x.toReal - y.toReal := by
  unfold Number.sub
  split
  · rename_i hx hy
    rw [eq_rat_of_rational hx, eq_rat_of_rational hy]
    exact Rat.cast_sub _ _
  · rfl

@[simp] theorem Number.toReal_mul (x y : Number) : (x.mul y).toReal = x.toReal * y.toReal := by
  unfold Number.mul
  split
  · rename_i hx hy
    rw [eq_rat_of_rational hx, eq_rat_of_rational hy]
    exact Rat.cast_mul _ _
  · split
    · rename_i h
      rcases h with rfl | rfl
      · exact (Rat.cast_zero.trans (zero_mul _).symm).trans (congrArg (· * _) Rat.cast_zero.symm)
      · exact (Rat.cast_zero.trans (mul_zero _).symm).trans (congrArg (_ * ·) Rat.cast_zero.symm)
    · rfl

/-- The quotient; by 0 it is an open number (log 31). -/
theorem Number.toReal_div (x y : Number) :
    (x.div y).toReal = if y.toReal = 0 then openReals.quotientByZero x.toReal else x.toReal / y.toReal := by
  unfold Number.div
  split
  · rename_i a b hx hy
    rw [eq_rat_of_rational hx, eq_rat_of_rational hy]
    split
    · rfl
    · rename_i h
      rw [toReal_rat, toReal_rat, if_neg (Rat.cast_ne_zero.mpr h)]
      exact Rat.cast_div a b
  · rfl

/-- The quotient by a number other than 0. -/
theorem Number.toReal_div_of_ne (x : Number) {y : Number} (h : y.toReal ≠ 0) : (x.div y).toReal = x.toReal / y.toReal := by
  rw [toReal_div, if_neg h]

@[simp] theorem Number.toReal_pow (x : Number) : ∀ n, (x.pow n).toReal = x.toReal ^ n
  | 0 => Rat.cast_one
  | n + 1 => by
    unfold Number.pow
    rw [toReal_mul, toReal_pow x n, pow_succ]

/-! ### Comparisons are those of the real numbers -/

theorem Number.le_iff (x y : Number) : x.le y = true ↔ x.toReal ≤ y.toReal := by
  unfold Number.le
  split
  · rename_i hx hy
    rw [eq_rat_of_rational hx, eq_rat_of_rational hy, decide_eq_true_iff]
    exact Rat.cast_le.symm
  · exact openReals.le_iff x y

theorem Number.lt_iff (x y : Number) : x.lt y = true ↔ x.toReal < y.toReal := by
  unfold Number.lt
  rw [Bool.not_eq_true', ← not_le, ← le_iff, Bool.not_eq_true]

@[simp] theorem number_toReal_min (x y : Number) : (x.min y).toReal = min x.toReal y.toReal := by
  unfold Number.min
  split
  · rename_i h
    exact (min_eq_left ((Number.le_iff x y).mp h)).symm
  · rename_i h
    exact (min_eq_right (le_of_not_ge fun c => h ((Number.le_iff x y).mpr c))).symm

@[simp] theorem number_toReal_max (x y : Number) : (x.max y).toReal = max x.toReal y.toReal := by
  unfold Number.max
  split
  · rename_i h
    exact (max_eq_right ((Number.le_iff x y).mp h)).symm
  · rename_i h
    exact (max_eq_left (le_of_not_ge fun c => h ((Number.le_iff x y).mpr c))).symm

/-- The signs, as the machine tests them. -/
theorem Number.pos_iff (x : Number) : Number.lt (.rat 0) x = true ↔ 0 < x.toReal := by
  rw [lt_iff, toReal_rat, Rat.cast_zero]

theorem Number.nonneg_iff (x : Number) : Number.le (.rat 0) x = true ↔ 0 ≤ x.toReal := by
  rw [le_iff, toReal_rat, Rat.cast_zero]

/-! ### Numbers held as frequencies and as numbers of the filter -/

/-- The one number of `TemperedReal.ofNumber`. -/
theorem TemperedReal.ofNumber_coeff_zero (x : Number) : (TemperedReal.ofNumber x).coeff[0] = x := by
  unfold TemperedReal.ofNumber TemperedReal.single
  rw [Vector.getElem_ofFn]
  rfl

@[simp] theorem TemperedReal.number_ofNumber (x : Number) : (TemperedReal.ofNumber x).number = some x := by
  unfold TemperedReal.number
  rw [ofNumber_coeff_zero, if_pos rfl]

@[simp] theorem TemperedReal.toReal_ofNumber (x : Number) : (TemperedReal.ofNumber x).toReal = x.toReal := by
  unfold TemperedReal.toReal TemperedReal.eval
  rw [Finset.sum_eq_single 0]
  · have h : (TemperedReal.ofNumber x).coeff[(0 : Fin 12)] = x := ofNumber_coeff_zero x
    rw [h]
    simp [twelfth, Number.toReal]
  · intro k _ hk
    have h : (TemperedReal.ofNumber x).coeff[k] = .rat 0 := by
      unfold TemperedReal.ofNumber TemperedReal.single
      rw [Fin.getElem_fin, Vector.getElem_ofFn]
      exact if_neg fun c => hk (Fin.ext c)
    rw [h]
    simp [Number.eval]
  · exact fun h => absurd (Finset.mem_univ _) h

@[simp] theorem FilterReal.toReal_number (x : Number) : (FilterReal.number x).toReal = x.toReal := rfl

@[simp] theorem FilterReal.toReal_zero : FilterReal.zero.toReal = 0 := Rat.cast_zero

/-! ### The reference domain -/

@[simp] theorem numDomain_of_exact (x : Number) : NumDomain.exact.of x = x := rfl

@[simp] theorem numDomain_add_exact (x y : Number) : NumDomain.exact.add x y = x.add y := rfl

@[simp] theorem numDomain_sub_exact (x y : Number) : NumDomain.exact.sub x y = x.sub y := rfl

@[simp] theorem numDomain_mul_exact (x y : Number) : NumDomain.exact.mul x y = x.mul y := rfl

@[simp] theorem numDomain_div_exact (x y : Number) : NumDomain.exact.div x y = x.div y := rfl

@[simp] theorem numDomain_ofTempered_exact (x : TemperedReal) : NumDomain.exact.ofTempered x = x := rfl

@[simp] theorem numDomain_temperedAdd_exact (x y : TemperedReal) : NumDomain.exact.temperedAdd x y = x.add y := rfl

@[simp] theorem numDomain_temperedMul_exact (q : Number) (x : TemperedReal) :
    NumDomain.exact.temperedMul q x = x.scale q := rfl

@[simp] theorem numDomain_temperedDiv_exact (x : TemperedReal) (q : Number) :
    NumDomain.exact.temperedDiv x q = x.divide q := rfl

@[simp] theorem numDomain_temperedFrac_exact (x : TemperedReal) : NumDomain.exact.temperedFrac x = x.frac := rfl

@[simp] theorem numDomain_ofFilter_exact (x : FilterReal) : NumDomain.exact.ofFilter x = x := rfl

@[simp] theorem numDomain_filterAdd_exact (x y : FilterReal) : NumDomain.exact.filterAdd x y = x.add y := rfl

@[simp] theorem numDomain_filterSub_exact (x y : FilterReal) :
    NumDomain.exact.filterSub x y = x.add (y.scale (.rat (-1))) := rfl

@[simp] theorem numDomain_filterMul_exact (q : Number) (x : FilterReal) : NumDomain.exact.filterMul q x = x.scale q := rfl

/-! ### Every domain holds the integers below `2 ^ 24` in size (log 34) -/

theorem heldExactly_intCast {k : Int} (h : k.natAbs < 2 ^ 24) : heldExactly (k : Rat) = true := by
  unfold heldExactly
  rw [Rat.den_intCast, Rat.num_intCast, decide_eq_true rfl, decide_eq_true h]
  rfl

theorem rounded_of_held (n : Nat) {q : Rat} (h : heldExactly q = true) : rounded n (.rat q) = q := if_pos h

/-- What every domain holds is not rounded. -/
theorem numDomain_of_held (num : NumDomain) {q : Rat} (h : heldExactly q = true) : num.of (.rat q) = .rat q := by
  cases num
  · rfl
  · exact congrArg Number.rat (rounded_of_held _ h)

/-- A sum of natural numbers. -/
theorem numDomain_add_nat (num : NumDomain) {k l : Nat} (h : k + l < 2 ^ 24) :
    num.add (.nat k) (.nat l) = .nat (k + l) := by
  have e : (Number.nat k).add (.nat l) = .rat ((k + l : Nat) : Int) := by
    simp [Number.add, Number.nat, Number.rational]
  unfold NumDomain.add
  rw [e]
  exact numDomain_of_held num (heldExactly_intCast (by omega))

/-- A difference of natural numbers that is one. -/
theorem numDomain_sub_nat (num : NumDomain) {k l : Nat} (hl : l ≤ k) (h : k < 2 ^ 24) :
    num.sub (.nat k) (.nat l) = .nat (k - l) := by
  have e : (Number.nat k).sub (.nat l) = .rat ((k - l : Nat) : Int) := by
    simp [Number.sub, Number.nat, Number.rational, Nat.cast_sub hl]
  unfold NumDomain.sub
  rw [e]
  exact numDomain_of_held num (heldExactly_intCast (by omega))

/-- A product with 0 is 0 in every domain. -/
@[simp] theorem numDomain_zero_mul (num : NumDomain) (x : Number) : num.mul (.rat 0) x = .rat 0 := by
  have e : (Number.rat 0).mul x = .rat 0 := by
    cases x <;> simp [Number.mul, Number.rational]
  unfold NumDomain.mul
  rw [e]
  exact numDomain_of_held num rfl

@[simp] theorem numDomain_mul_zero (num : NumDomain) (x : Number) : num.mul x (.rat 0) = .rat 0 := by
  have e : x.mul (.rat 0) = .rat 0 := by
    cases x <;> simp [Number.mul, Number.rational]
  unfold NumDomain.mul
  rw [e]
  exact numDomain_of_held num rfl

@[simp] theorem numDomain_filterMul_zero (num : NumDomain) (q : Number) :
    num.filterMul q FilterReal.zero = FilterReal.zero := by
  have e := numDomain_mul_zero num q
  cases num
  · exact congrArg FilterReal.number e
  · exact congrArg FilterReal.number e

@[simp] theorem numDomain_filterAdd_zero (num : NumDomain) :
    num.filterAdd FilterReal.zero FilterReal.zero = FilterReal.zero := by
  have e := numDomain_add_nat num (k := 0) (l := 0) (by decide)
  cases num
  · exact congrArg FilterReal.number e
  · exact congrArg FilterReal.number e

@[simp] theorem numDomain_filterSub_zero (num : NumDomain) :
    num.filterSub FilterReal.zero FilterReal.zero = FilterReal.zero := by
  have e : FilterReal.zero.scale (.rat (-1)) = FilterReal.zero :=
    congrArg (FilterReal.number ∘ Number.rat) (mul_zero (-1 : Rat))
  unfold NumDomain.filterSub
  rw [e]
  exact numDomain_filterAdd_zero num

end Sys2Proof.Machine
end

