-- ==== Sys2Proof/Laws/State.lean ====
section
/-! SUPPORT. One lemma for each field of the state and each plain update, so that no proof unfolds an update. -/

namespace Sys2Proof.Machine

@[simp] theorem State.setA_a (s : State) (v : Byte) : (s.setA v).a = v := rfl

@[simp] theorem State.setA_x (s : State) (v : Byte) : (s.setA v).x = s.x := rfl

@[simp] theorem State.setA_y (s : State) (v : Byte) : (s.setA v).y = s.y := rfl

@[simp] theorem State.setA_sp (s : State) (v : Byte) : (s.setA v).sp = s.sp := rfl

@[simp] theorem State.setA_p (s : State) (v : Byte) : (s.setA v).p = s.p := rfl

@[simp] theorem State.setA_pc (s : State) (v : Byte) : (s.setA v).pc = s.pc := rfl

@[simp] theorem State.setA_mem (s : State) (v : Byte) : (s.setA v).mem = s.mem := rfl

@[simp] theorem State.setA_cache (s : State) (v : Byte) : (s.setA v).cache = s.cache := rfl

@[simp] theorem State.setA_engine (s : State) (v : Byte) : (s.setA v).engine = s.engine := rfl

@[simp] theorem State.setA_song (s : State) (v : Byte) : (s.setA v).song = s.song := rfl

@[simp] theorem State.setA_play (s : State) (v : Byte) : (s.setA v).play = s.play := rfl

@[simp] theorem State.setA_unsupCount (s : State) (v : Byte) : (s.setA v).unsupCount = s.unsupCount := rfl

@[simp] theorem State.setA_params (s : State) (v : Byte) : (s.setA v).params = s.params := rfl

@[simp] theorem State.setA_ctl (s : State) (v : Byte) : (s.setA v).ctl = s.ctl := rfl

@[simp] theorem State.setA_task (s : State) (v : Byte) : (s.setA v).task = s.task := rfl

@[simp] theorem State.setA_calls (s : State) (v : Byte) : (s.setA v).calls = s.calls := rfl

@[simp] theorem State.setA_cycles (s : State) (v : Byte) : (s.setA v).cycles = s.cycles := rfl

@[simp] theorem State.setA_out (s : State) (v : Byte) : (s.setA v).out = s.out := rfl

@[simp] theorem State.setA_callbacks (s : State) (v : Byte) : (s.setA v).callbacks = s.callbacks := rfl

@[simp] theorem State.setA_events (s : State) (v : Byte) : (s.setA v).events = s.events := rfl

@[simp] theorem State.setA_loadResult (s : State) (v : Byte) : (s.setA v).loadResult = s.loadResult := rfl

@[simp] theorem State.setX_a (s : State) (v : Byte) : (s.setX v).a = s.a := rfl

@[simp] theorem State.setX_x (s : State) (v : Byte) : (s.setX v).x = v := rfl

@[simp] theorem State.setX_y (s : State) (v : Byte) : (s.setX v).y = s.y := rfl

@[simp] theorem State.setX_sp (s : State) (v : Byte) : (s.setX v).sp = s.sp := rfl

@[simp] theorem State.setX_p (s : State) (v : Byte) : (s.setX v).p = s.p := rfl

@[simp] theorem State.setX_pc (s : State) (v : Byte) : (s.setX v).pc = s.pc := rfl

@[simp] theorem State.setX_mem (s : State) (v : Byte) : (s.setX v).mem = s.mem := rfl

@[simp] theorem State.setX_cache (s : State) (v : Byte) : (s.setX v).cache = s.cache := rfl

@[simp] theorem State.setX_engine (s : State) (v : Byte) : (s.setX v).engine = s.engine := rfl

@[simp] theorem State.setX_song (s : State) (v : Byte) : (s.setX v).song = s.song := rfl

@[simp] theorem State.setX_play (s : State) (v : Byte) : (s.setX v).play = s.play := rfl

@[simp] theorem State.setX_unsupCount (s : State) (v : Byte) : (s.setX v).unsupCount = s.unsupCount := rfl

@[simp] theorem State.setX_params (s : State) (v : Byte) : (s.setX v).params = s.params := rfl

@[simp] theorem State.setX_ctl (s : State) (v : Byte) : (s.setX v).ctl = s.ctl := rfl

@[simp] theorem State.setX_task (s : State) (v : Byte) : (s.setX v).task = s.task := rfl

@[simp] theorem State.setX_calls (s : State) (v : Byte) : (s.setX v).calls = s.calls := rfl

@[simp] theorem State.setX_cycles (s : State) (v : Byte) : (s.setX v).cycles = s.cycles := rfl

@[simp] theorem State.setX_out (s : State) (v : Byte) : (s.setX v).out = s.out := rfl

@[simp] theorem State.setX_callbacks (s : State) (v : Byte) : (s.setX v).callbacks = s.callbacks := rfl

@[simp] theorem State.setX_events (s : State) (v : Byte) : (s.setX v).events = s.events := rfl

@[simp] theorem State.setX_loadResult (s : State) (v : Byte) : (s.setX v).loadResult = s.loadResult := rfl

@[simp] theorem State.setY_a (s : State) (v : Byte) : (s.setY v).a = s.a := rfl

@[simp] theorem State.setY_x (s : State) (v : Byte) : (s.setY v).x = s.x := rfl

@[simp] theorem State.setY_y (s : State) (v : Byte) : (s.setY v).y = v := rfl

@[simp] theorem State.setY_sp (s : State) (v : Byte) : (s.setY v).sp = s.sp := rfl

@[simp] theorem State.setY_p (s : State) (v : Byte) : (s.setY v).p = s.p := rfl

@[simp] theorem State.setY_pc (s : State) (v : Byte) : (s.setY v).pc = s.pc := rfl

@[simp] theorem State.setY_mem (s : State) (v : Byte) : (s.setY v).mem = s.mem := rfl

@[simp] theorem State.setY_cache (s : State) (v : Byte) : (s.setY v).cache = s.cache := rfl

@[simp] theorem State.setY_engine (s : State) (v : Byte) : (s.setY v).engine = s.engine := rfl

@[simp] theorem State.setY_song (s : State) (v : Byte) : (s.setY v).song = s.song := rfl

@[simp] theorem State.setY_play (s : State) (v : Byte) : (s.setY v).play = s.play := rfl

@[simp] theorem State.setY_unsupCount (s : State) (v : Byte) : (s.setY v).unsupCount = s.unsupCount := rfl

@[simp] theorem State.setY_params (s : State) (v : Byte) : (s.setY v).params = s.params := rfl

@[simp] theorem State.setY_ctl (s : State) (v : Byte) : (s.setY v).ctl = s.ctl := rfl

@[simp] theorem State.setY_task (s : State) (v : Byte) : (s.setY v).task = s.task := rfl

@[simp] theorem State.setY_calls (s : State) (v : Byte) : (s.setY v).calls = s.calls := rfl

@[simp] theorem State.setY_cycles (s : State) (v : Byte) : (s.setY v).cycles = s.cycles := rfl

@[simp] theorem State.setY_out (s : State) (v : Byte) : (s.setY v).out = s.out := rfl

@[simp] theorem State.setY_callbacks (s : State) (v : Byte) : (s.setY v).callbacks = s.callbacks := rfl

@[simp] theorem State.setY_events (s : State) (v : Byte) : (s.setY v).events = s.events := rfl

@[simp] theorem State.setY_loadResult (s : State) (v : Byte) : (s.setY v).loadResult = s.loadResult := rfl

@[simp] theorem State.setSP_a (s : State) (v : Byte) : (s.setSP v).a = s.a := rfl

@[simp] theorem State.setSP_x (s : State) (v : Byte) : (s.setSP v).x = s.x := rfl

@[simp] theorem State.setSP_y (s : State) (v : Byte) : (s.setSP v).y = s.y := rfl

@[simp] theorem State.setSP_sp (s : State) (v : Byte) : (s.setSP v).sp = v := rfl

@[simp] theorem State.setSP_p (s : State) (v : Byte) : (s.setSP v).p = s.p := rfl

@[simp] theorem State.setSP_pc (s : State) (v : Byte) : (s.setSP v).pc = s.pc := rfl

@[simp] theorem State.setSP_mem (s : State) (v : Byte) : (s.setSP v).mem = s.mem := rfl

@[simp] theorem State.setSP_cache (s : State) (v : Byte) : (s.setSP v).cache = s.cache := rfl

@[simp] theorem State.setSP_engine (s : State) (v : Byte) : (s.setSP v).engine = s.engine := rfl

@[simp] theorem State.setSP_song (s : State) (v : Byte) : (s.setSP v).song = s.song := rfl

@[simp] theorem State.setSP_play (s : State) (v : Byte) : (s.setSP v).play = s.play := rfl

@[simp] theorem State.setSP_unsupCount (s : State) (v : Byte) : (s.setSP v).unsupCount = s.unsupCount := rfl

@[simp] theorem State.setSP_params (s : State) (v : Byte) : (s.setSP v).params = s.params := rfl

@[simp] theorem State.setSP_ctl (s : State) (v : Byte) : (s.setSP v).ctl = s.ctl := rfl

@[simp] theorem State.setSP_task (s : State) (v : Byte) : (s.setSP v).task = s.task := rfl

@[simp] theorem State.setSP_calls (s : State) (v : Byte) : (s.setSP v).calls = s.calls := rfl

@[simp] theorem State.setSP_cycles (s : State) (v : Byte) : (s.setSP v).cycles = s.cycles := rfl

@[simp] theorem State.setSP_out (s : State) (v : Byte) : (s.setSP v).out = s.out := rfl

@[simp] theorem State.setSP_callbacks (s : State) (v : Byte) : (s.setSP v).callbacks = s.callbacks := rfl

@[simp] theorem State.setSP_events (s : State) (v : Byte) : (s.setSP v).events = s.events := rfl

@[simp] theorem State.setSP_loadResult (s : State) (v : Byte) : (s.setSP v).loadResult = s.loadResult := rfl

@[simp] theorem State.setP_a (s : State) (v : Byte) : (s.setP v).a = s.a := rfl

@[simp] theorem State.setP_x (s : State) (v : Byte) : (s.setP v).x = s.x := rfl

@[simp] theorem State.setP_y (s : State) (v : Byte) : (s.setP v).y = s.y := rfl

@[simp] theorem State.setP_sp (s : State) (v : Byte) : (s.setP v).sp = s.sp := rfl

@[simp] theorem State.setP_p (s : State) (v : Byte) : (s.setP v).p = v := rfl

@[simp] theorem State.setP_pc (s : State) (v : Byte) : (s.setP v).pc = s.pc := rfl

@[simp] theorem State.setP_mem (s : State) (v : Byte) : (s.setP v).mem = s.mem := rfl

@[simp] theorem State.setP_cache (s : State) (v : Byte) : (s.setP v).cache = s.cache := rfl

@[simp] theorem State.setP_engine (s : State) (v : Byte) : (s.setP v).engine = s.engine := rfl

@[simp] theorem State.setP_song (s : State) (v : Byte) : (s.setP v).song = s.song := rfl

@[simp] theorem State.setP_play (s : State) (v : Byte) : (s.setP v).play = s.play := rfl

@[simp] theorem State.setP_unsupCount (s : State) (v : Byte) : (s.setP v).unsupCount = s.unsupCount := rfl

@[simp] theorem State.setP_params (s : State) (v : Byte) : (s.setP v).params = s.params := rfl

@[simp] theorem State.setP_ctl (s : State) (v : Byte) : (s.setP v).ctl = s.ctl := rfl

@[simp] theorem State.setP_task (s : State) (v : Byte) : (s.setP v).task = s.task := rfl

@[simp] theorem State.setP_calls (s : State) (v : Byte) : (s.setP v).calls = s.calls := rfl

@[simp] theorem State.setP_cycles (s : State) (v : Byte) : (s.setP v).cycles = s.cycles := rfl

@[simp] theorem State.setP_out (s : State) (v : Byte) : (s.setP v).out = s.out := rfl

@[simp] theorem State.setP_callbacks (s : State) (v : Byte) : (s.setP v).callbacks = s.callbacks := rfl

@[simp] theorem State.setP_events (s : State) (v : Byte) : (s.setP v).events = s.events := rfl

@[simp] theorem State.setP_loadResult (s : State) (v : Byte) : (s.setP v).loadResult = s.loadResult := rfl

@[simp] theorem State.setPC_a (s : State) (v : Word) : (s.setPC v).a = s.a := rfl

@[simp] theorem State.setPC_x (s : State) (v : Word) : (s.setPC v).x = s.x := rfl

@[simp] theorem State.setPC_y (s : State) (v : Word) : (s.setPC v).y = s.y := rfl

@[simp] theorem State.setPC_sp (s : State) (v : Word) : (s.setPC v).sp = s.sp := rfl

@[simp] theorem State.setPC_p (s : State) (v : Word) : (s.setPC v).p = s.p := rfl

@[simp] theorem State.setPC_pc (s : State) (v : Word) : (s.setPC v).pc = v := rfl

@[simp] theorem State.setPC_mem (s : State) (v : Word) : (s.setPC v).mem = s.mem := rfl

@[simp] theorem State.setPC_cache (s : State) (v : Word) : (s.setPC v).cache = s.cache := rfl

@[simp] theorem State.setPC_engine (s : State) (v : Word) : (s.setPC v).engine = s.engine := rfl

@[simp] theorem State.setPC_song (s : State) (v : Word) : (s.setPC v).song = s.song := rfl

@[simp] theorem State.setPC_play (s : State) (v : Word) : (s.setPC v).play = s.play := rfl

@[simp] theorem State.setPC_unsupCount (s : State) (v : Word) : (s.setPC v).unsupCount = s.unsupCount := rfl

@[simp] theorem State.setPC_params (s : State) (v : Word) : (s.setPC v).params = s.params := rfl

@[simp] theorem State.setPC_ctl (s : State) (v : Word) : (s.setPC v).ctl = s.ctl := rfl

@[simp] theorem State.setPC_task (s : State) (v : Word) : (s.setPC v).task = s.task := rfl

@[simp] theorem State.setPC_calls (s : State) (v : Word) : (s.setPC v).calls = s.calls := rfl

@[simp] theorem State.setPC_cycles (s : State) (v : Word) : (s.setPC v).cycles = s.cycles := rfl

@[simp] theorem State.setPC_out (s : State) (v : Word) : (s.setPC v).out = s.out := rfl

@[simp] theorem State.setPC_callbacks (s : State) (v : Word) : (s.setPC v).callbacks = s.callbacks := rfl

@[simp] theorem State.setPC_events (s : State) (v : Word) : (s.setPC v).events = s.events := rfl

@[simp] theorem State.setPC_loadResult (s : State) (v : Word) : (s.setPC v).loadResult = s.loadResult := rfl

@[simp] theorem State.retire_a (s : State) (n : Word) (op : Byte) (c : Nat) : (s.retire n op c).a = s.a := rfl

@[simp] theorem State.retire_x (s : State) (n : Word) (op : Byte) (c : Nat) : (s.retire n op c).x = s.x := rfl

@[simp] theorem State.retire_y (s : State) (n : Word) (op : Byte) (c : Nat) : (s.retire n op c).y = s.y := rfl

@[simp] theorem State.retire_sp (s : State) (n : Word) (op : Byte) (c : Nat) : (s.retire n op c).sp = s.sp := rfl

@[simp] theorem State.retire_p (s : State) (n : Word) (op : Byte) (c : Nat) : (s.retire n op c).p = s.p := rfl

@[simp] theorem State.retire_pc (s : State) (n : Word) (op : Byte) (c : Nat) : (s.retire n op c).pc = s.pc + n := rfl

@[simp] theorem State.retire_mem (s : State) (n : Word) (op : Byte) (c : Nat) : (s.retire n op c).mem = s.mem := rfl

@[simp] theorem State.retire_cache (s : State) (n : Word) (op : Byte) (c : Nat) :
    (s.retire n op c).cache = s.cache := rfl

@[simp] theorem State.retire_engine (s : State) (n : Word) (op : Byte) (c : Nat) :
    (s.retire n op c).engine = s.engine := rfl

@[simp] theorem State.retire_song (s : State) (n : Word) (op : Byte) (c : Nat) : (s.retire n op c).song = s.song := rfl

@[simp] theorem State.retire_play (s : State) (n : Word) (op : Byte) (c : Nat) : (s.retire n op c).play = s.play := rfl

@[simp] theorem State.retire_unsupCount (s : State) (n : Word) (op : Byte) (c : Nat) :
    (s.retire n op c).unsupCount = s.unsupCount := rfl

@[simp] theorem State.retire_params (s : State) (n : Word) (op : Byte) (c : Nat) :
    (s.retire n op c).params = s.params := rfl

@[simp] theorem State.retire_ctl (s : State) (n : Word) (op : Byte) (c : Nat) : (s.retire n op c).ctl = s.ctl := rfl

@[simp] theorem State.retire_task (s : State) (n : Word) (op : Byte) (c : Nat) : (s.retire n op c).task = s.task := rfl

@[simp] theorem State.retire_calls (s : State) (n : Word) (op : Byte) (c : Nat) :
    (s.retire n op c).calls = s.calls := rfl

@[simp] theorem State.retire_cycles (s : State) (n : Word) (op : Byte) (c : Nat) :
    (s.retire n op c).cycles = s.params.cycles.entry op + c := rfl

@[simp] theorem State.retire_out (s : State) (n : Word) (op : Byte) (c : Nat) : (s.retire n op c).out = s.out := rfl

@[simp] theorem State.retire_callbacks (s : State) (n : Word) (op : Byte) (c : Nat) :
    (s.retire n op c).callbacks = s.callbacks := rfl

@[simp] theorem State.retire_events (s : State) (n : Word) (op : Byte) (c : Nat) :
    (s.retire n op c).events = s.events := rfl

@[simp] theorem State.retire_loadResult (s : State) (n : Word) (op : Byte) (c : Nat) :
    (s.retire n op c).loadResult = s.loadResult := rfl

@[simp] theorem State.raise_a (s : State) (e : Event) : (s.raise e).a = s.a := rfl

@[simp] theorem State.raise_x (s : State) (e : Event) : (s.raise e).x = s.x := rfl

@[simp] theorem State.raise_y (s : State) (e : Event) : (s.raise e).y = s.y := rfl

@[simp] theorem State.raise_sp (s : State) (e : Event) : (s.raise e).sp = s.sp := rfl

@[simp] theorem State.raise_p (s : State) (e : Event) : (s.raise e).p = s.p := rfl

@[simp] theorem State.raise_pc (s : State) (e : Event) : (s.raise e).pc = s.pc := rfl

@[simp] theorem State.raise_mem (s : State) (e : Event) : (s.raise e).mem = s.mem := rfl

@[simp] theorem State.raise_cache (s : State) (e : Event) : (s.raise e).cache = s.cache := rfl

@[simp] theorem State.raise_engine (s : State) (e : Event) : (s.raise e).engine = s.engine := rfl

@[simp] theorem State.raise_song (s : State) (e : Event) : (s.raise e).song = s.song := rfl

@[simp] theorem State.raise_play (s : State) (e : Event) : (s.raise e).play = s.play := rfl

@[simp] theorem State.raise_unsupCount (s : State) (e : Event) : (s.raise e).unsupCount = s.unsupCount := rfl

@[simp] theorem State.raise_params (s : State) (e : Event) : (s.raise e).params = s.params := rfl

@[simp] theorem State.raise_ctl (s : State) (e : Event) : (s.raise e).ctl = s.ctl := rfl

@[simp] theorem State.raise_task (s : State) (e : Event) : (s.raise e).task = s.task := rfl

@[simp] theorem State.raise_calls (s : State) (e : Event) : (s.raise e).calls = s.calls := rfl

@[simp] theorem State.raise_cycles (s : State) (e : Event) : (s.raise e).cycles = s.cycles := rfl

@[simp] theorem State.raise_out (s : State) (e : Event) : (s.raise e).out = s.out := rfl

@[simp] theorem State.raise_callbacks (s : State) (e : Event) : (s.raise e).callbacks = s.callbacks := rfl

@[simp] theorem State.raise_events (s : State) (e : Event) : (s.raise e).events = e :: s.events := rfl

@[simp] theorem State.raise_loadResult (s : State) (e : Event) : (s.raise e).loadResult = s.loadResult := rfl

@[simp] theorem State.skipUnsupported_a (s : State) (op : Byte) (len : Nat) : (s.skipUnsupported op len).a = s.a := rfl

@[simp] theorem State.skipUnsupported_x (s : State) (op : Byte) (len : Nat) : (s.skipUnsupported op len).x = s.x := rfl

@[simp] theorem State.skipUnsupported_y (s : State) (op : Byte) (len : Nat) : (s.skipUnsupported op len).y = s.y := rfl

@[simp] theorem State.skipUnsupported_sp (s : State) (op : Byte) (len : Nat) :
    (s.skipUnsupported op len).sp = s.sp := rfl

@[simp] theorem State.skipUnsupported_p (s : State) (op : Byte) (len : Nat) : (s.skipUnsupported op len).p = s.p := rfl

@[simp] theorem State.skipUnsupported_pc (s : State) (op : Byte) (len : Nat) :
    (s.skipUnsupported op len).pc = s.pc + BitVec.ofNat 16 len := rfl

@[simp] theorem State.skipUnsupported_mem (s : State) (op : Byte) (len : Nat) :
    (s.skipUnsupported op len).mem = s.mem := rfl

@[simp] theorem State.skipUnsupported_cache (s : State) (op : Byte) (len : Nat) :
    (s.skipUnsupported op len).cache = s.cache := rfl

@[simp] theorem State.skipUnsupported_engine (s : State) (op : Byte) (len : Nat) :
    (s.skipUnsupported op len).engine = s.engine := rfl

@[simp] theorem State.skipUnsupported_song (s : State) (op : Byte) (len : Nat) :
    (s.skipUnsupported op len).song = s.song := rfl

@[simp] theorem State.skipUnsupported_play (s : State) (op : Byte) (len : Nat) :
    (s.skipUnsupported op len).play = s.play := rfl

@[simp] theorem State.skipUnsupported_unsupCount (s : State) (op : Byte) (len : Nat) :
    (s.skipUnsupported op len).unsupCount = s.unsupCount + 1 := rfl

@[simp] theorem State.skipUnsupported_params (s : State) (op : Byte) (len : Nat) :
    (s.skipUnsupported op len).params = s.params := rfl

@[simp] theorem State.skipUnsupported_ctl (s : State) (op : Byte) (len : Nat) :
    (s.skipUnsupported op len).ctl = s.ctl := rfl

@[simp] theorem State.skipUnsupported_task (s : State) (op : Byte) (len : Nat) :
    (s.skipUnsupported op len).task = s.task := rfl

@[simp] theorem State.skipUnsupported_calls (s : State) (op : Byte) (len : Nat) :
    (s.skipUnsupported op len).calls = s.calls := rfl

@[simp] theorem State.skipUnsupported_cycles (s : State) (op : Byte) (len : Nat) :
    (s.skipUnsupported op len).cycles = s.params.unsupCycles := rfl

@[simp] theorem State.skipUnsupported_out (s : State) (op : Byte) (len : Nat) :
    (s.skipUnsupported op len).out = s.out := rfl

@[simp] theorem State.skipUnsupported_callbacks (s : State) (op : Byte) (len : Nat) :
    (s.skipUnsupported op len).callbacks = s.callbacks := rfl

@[simp] theorem State.skipUnsupported_events (s : State) (op : Byte) (len : Nat) :
    (s.skipUnsupported op len).events = .unsupported op s.pc :: s.events := rfl

@[simp] theorem State.skipUnsupported_loadResult (s : State) (op : Byte) (len : Nat) :
    (s.skipUnsupported op len).loadResult = s.loadResult := rfl

@[simp] theorem State.coreReset_a (s : State) : (s.coreReset).a = s.params.resetA := rfl

@[simp] theorem State.coreReset_x (s : State) : (s.coreReset).x = s.params.resetX := rfl

@[simp] theorem State.coreReset_y (s : State) : (s.coreReset).y = s.params.resetY := rfl

@[simp] theorem State.coreReset_sp (s : State) : (s.coreReset).sp = s.params.resetSP := rfl

@[simp] theorem State.coreReset_p (s : State) : (s.coreReset).p = s.params.resetP := rfl

@[simp] theorem State.coreReset_pc (s : State) : (s.coreReset).pc = s.params.resetPC := rfl

@[simp] theorem State.coreReset_mem (s : State) : (s.coreReset).mem = s.mem := rfl

@[simp] theorem State.coreReset_cache (s : State) : (s.coreReset).cache = s.cache := rfl

@[simp] theorem State.coreReset_engine (s : State) : (s.coreReset).engine = s.engine := rfl

@[simp] theorem State.coreReset_song (s : State) : (s.coreReset).song = s.song := rfl

@[simp] theorem State.coreReset_play (s : State) : (s.coreReset).play = s.play := rfl

@[simp] theorem State.coreReset_unsupCount (s : State) : (s.coreReset).unsupCount = s.unsupCount := rfl

@[simp] theorem State.coreReset_params (s : State) : (s.coreReset).params = s.params := rfl

@[simp] theorem State.coreReset_ctl (s : State) : (s.coreReset).ctl = s.ctl := rfl

@[simp] theorem State.coreReset_task (s : State) : (s.coreReset).task = s.task := rfl

@[simp] theorem State.coreReset_calls (s : State) : (s.coreReset).calls = s.calls := rfl

@[simp] theorem State.coreReset_cycles (s : State) : (s.coreReset).cycles = s.cycles := rfl

@[simp] theorem State.coreReset_out (s : State) : (s.coreReset).out = s.out := rfl

@[simp] theorem State.coreReset_callbacks (s : State) : (s.coreReset).callbacks = s.callbacks := rfl

@[simp] theorem State.coreReset_events (s : State) : (s.coreReset).events = s.events := rfl

@[simp] theorem State.coreReset_loadResult (s : State) : (s.coreReset).loadResult = s.loadResult := rfl

end Sys2Proof.Machine
end

