-- ==== Sys2Proof/Laws/Ops.lean ====
section
/-! SUPPORT. What each shared operation over registers and memory can do, once. -/

namespace Sys2Proof.Machine

/-- The two cases of the write hook. -/
theorem State.memWrite_cases (s : State) (a : Word) (v : Byte) :
    (∃ o, windowOffset s.params a = some o ∧
      s.memWrite a v = { s with cache := bridgeCache o v s.cache, engine := bridgeEngine s.params o v s.cache s.engine }) ∨
    (windowOffset s.params a = none ∧ s.memWrite a v = { s with mem := s.mem.write a.toNat v }) := by
  unfold State.memWrite
  split
  · exact .inl ⟨_, ‹_›, rfl⟩
  · exact .inr ⟨‹_›, rfl⟩

/-- The offset of an address in the window. -/
theorem windowOffset_eq_some {p : Params} {a : Word} {o : Nat} :
    windowOffset p a = some o ↔ o < p.winSize ∧ a.toNat = p.winBase.toNat + o := by
  unfold windowOffset
  split
  · rename_i h
    simp only [Option.some.injEq]
    omega
  · rename_i h
    simp only [reduceCtorEq, false_iff]
    omega

/-- An address outside the window. -/
theorem windowOffset_eq_none {p : Params} {a : Word} :
    windowOffset p a = none ↔ ∀ o : Nat, o < p.winSize → a.toNat ≠ p.winBase.toNat + o := by
  rw [Option.eq_none_iff_forall_ne_some]
  exact forall_congr' fun o => (not_congr windowOffset_eq_some).trans not_and

/-- A window offset is less than the size of the address space. -/
theorem windowOffset_lt {p : Params} {a : Word} {o : Nat} (h : windowOffset p a = some o) : o < Memory.size := by
  have h' := windowOffset_eq_some.mp h
  have := a.isLt
  unfold Memory.size
  omega

/-- A window write does to the shadow bytes what the shadow update does. -/
@[simp] theorem bridgeCache_shadow (o : Nat) (b : Byte) (c : RegisterCache) :
    (bridgeCache o b c).shadow = (c.setShadow o b).shadow := by
  unfold bridgeCache
  split <;> rfl

/-- The same of the shadow bytes from offset 32 on. -/
@[simp] theorem bridgeCache_more (o : Nat) (b : Byte) (c : RegisterCache) :
    (bridgeCache o b c).more = (c.setShadow o b).more := by
  unfold bridgeCache
  split <;> rfl

/-- The shadow update leaves the recorded gates and frequencies. -/
@[simp] theorem RegisterCache.setShadow_prevGate (c : RegisterCache) (o : Nat) (b : Byte) :
    (c.setShadow o b).prevGate = c.prevGate := by
  unfold RegisterCache.setShadow; split <;> rfl

@[simp] theorem RegisterCache.setShadow_baseFreq (c : RegisterCache) (o : Nat) (b : Byte) :
    (c.setShadow o b).baseFreq = c.baseFreq := by
  unfold RegisterCache.setShadow; split <;> rfl

/-- At the offsets of 10 R30 the shadow update is of one of the 32 bytes. -/
@[simp] theorem RegisterCache.setShadow_fin (c : RegisterCache) (o : Fin 32) (b : Byte) :
    c.setShadow o.val b = { c with shadow := c.shadow.set o b } := dif_pos o.isLt

/-- From offset 32 on a window write is the shadow update and no engine call. -/
theorem bridge_of_le (p : Params) {o : Nat} (h : 32 ≤ o) (b : Byte) (c : RegisterCache) (e : Engine) :
    bridgeCache o b c = { c with more := c.more.write o b } ∧ bridgeEngine p o b c e = e := by
  have hr : windowReg o = .unnamed := by
    unfold windowReg
    rw [dif_neg (by omega)]
    split <;> first | rfl | omega
  unfold bridgeCache bridgeEngine
  rw [hr]
  exact ⟨dif_neg (by omega), rfl⟩

/-- The shadow update touches no shadow byte but its own. -/
theorem RegisterCache.shadowByte_setShadow_of_ne (c : RegisterCache) {o k : Nat} (b : Byte) (h : k ≠ o) :
    (c.setShadow o b).shadowByte k = c.shadowByte k := by
  unfold RegisterCache.setShadow RegisterCache.shadowByte
  split <;> split <;> simp only [Vector.getElem_set_ne (h := Ne.symm h)]
  exact Memory.read_write_of_ne _ _ h

/-- The shadow byte that was written reads back. -/
theorem RegisterCache.shadowByte_setShadow_self (c : RegisterCache) (o : Nat) (b : Byte) (h : c.more.wf = true) :
    (c.setShadow o b).shadowByte o = b := by
  unfold RegisterCache.setShadow RegisterCache.shadowByte
  split <;> simp only
  · simp
  · exact Memory.read_write_self _ _ _ h

/-- The shadow update keeps the canonical form. -/
theorem RegisterCache.setShadow_wf (c : RegisterCache) {o : Nat} (b : Byte) (ho : o < Memory.size)
    (h : c.more.wf = true) : (c.setShadow o b).more.wf = true := by
  unfold RegisterCache.setShadow
  split
  · exact h
  · exact Memory.write_wf _ h ho

/-- A shadow byte depends on the shadow bytes alone. -/
theorem RegisterCache.shadowByte_congr {c d : RegisterCache} (hs : c.shadow = d.shadow) (hm : c.more = d.more) (o : Nat) :
    c.shadowByte o = d.shadowByte o := by
  unfold RegisterCache.shadowByte
  rw [hs, hm]

@[simp] theorem State.memWrite_a (s : State) (a : Word) (v : Byte) : (s.memWrite a v).a = s.a := by
  unfold State.memWrite; split <;> rfl

@[simp] theorem State.memWrite_x (s : State) (a : Word) (v : Byte) : (s.memWrite a v).x = s.x := by
  unfold State.memWrite; split <;> rfl

@[simp] theorem State.memWrite_y (s : State) (a : Word) (v : Byte) : (s.memWrite a v).y = s.y := by
  unfold State.memWrite; split <;> rfl

@[simp] theorem State.memWrite_sp (s : State) (a : Word) (v : Byte) : (s.memWrite a v).sp = s.sp := by
  unfold State.memWrite; split <;> rfl

@[simp] theorem State.memWrite_p (s : State) (a : Word) (v : Byte) : (s.memWrite a v).p = s.p := by
  unfold State.memWrite; split <;> rfl

@[simp] theorem State.memWrite_pc (s : State) (a : Word) (v : Byte) : (s.memWrite a v).pc = s.pc := by
  unfold State.memWrite; split <;> rfl

@[simp] theorem State.memWrite_song (s : State) (a : Word) (v : Byte) : (s.memWrite a v).song = s.song := by
  unfold State.memWrite; split <;> rfl

@[simp] theorem State.memWrite_play (s : State) (a : Word) (v : Byte) : (s.memWrite a v).play = s.play := by
  unfold State.memWrite; split <;> rfl

@[simp] theorem State.memWrite_unsupCount (s : State) (a : Word) (v : Byte) : (s.memWrite a v).unsupCount = s.unsupCount := by
  unfold State.memWrite; split <;> rfl

@[simp] theorem State.memWrite_params (s : State) (a : Word) (v : Byte) : (s.memWrite a v).params = s.params := by
  unfold State.memWrite; split <;> rfl

@[simp] theorem State.memWrite_ctl (s : State) (a : Word) (v : Byte) : (s.memWrite a v).ctl = s.ctl := by
  unfold State.memWrite; split <;> rfl

@[simp] theorem State.memWrite_task (s : State) (a : Word) (v : Byte) : (s.memWrite a v).task = s.task := by
  unfold State.memWrite; split <;> rfl

@[simp] theorem State.memWrite_calls (s : State) (a : Word) (v : Byte) : (s.memWrite a v).calls = s.calls := by
  unfold State.memWrite; split <;> rfl

@[simp] theorem State.memWrite_cycles (s : State) (a : Word) (v : Byte) : (s.memWrite a v).cycles = s.cycles := by
  unfold State.memWrite; split <;> rfl

@[simp] theorem State.memWrite_out (s : State) (a : Word) (v : Byte) : (s.memWrite a v).out = s.out := by
  unfold State.memWrite; split <;> rfl

@[simp] theorem State.memWrite_callbacks (s : State) (a : Word) (v : Byte) : (s.memWrite a v).callbacks = s.callbacks := by
  unfold State.memWrite; split <;> rfl

@[simp] theorem State.memWrite_events (s : State) (a : Word) (v : Byte) : (s.memWrite a v).events = s.events := by
  unfold State.memWrite; split <;> rfl

@[simp] theorem State.memWrite_loadResult (s : State) (a : Word) (v : Byte) : (s.memWrite a v).loadResult = s.loadResult := by
  unfold State.memWrite; split <;> rfl

@[simp] theorem State.push_a (s : State) (b : Byte) : (s.push b).a = s.a := by simp [State.push]

@[simp] theorem State.push_x (s : State) (b : Byte) : (s.push b).x = s.x := by simp [State.push]

@[simp] theorem State.push_y (s : State) (b : Byte) : (s.push b).y = s.y := by simp [State.push]

@[simp] theorem State.push_p (s : State) (b : Byte) : (s.push b).p = s.p := by simp [State.push]

@[simp] theorem State.push_pc (s : State) (b : Byte) : (s.push b).pc = s.pc := by simp [State.push]

@[simp] theorem State.push_song (s : State) (b : Byte) : (s.push b).song = s.song := by simp [State.push]

@[simp] theorem State.push_play (s : State) (b : Byte) : (s.push b).play = s.play := by simp [State.push]

@[simp] theorem State.push_unsupCount (s : State) (b : Byte) : (s.push b).unsupCount = s.unsupCount := by simp [State.push]

@[simp] theorem State.push_params (s : State) (b : Byte) : (s.push b).params = s.params := by simp [State.push]

@[simp] theorem State.push_ctl (s : State) (b : Byte) : (s.push b).ctl = s.ctl := by simp [State.push]

@[simp] theorem State.push_task (s : State) (b : Byte) : (s.push b).task = s.task := by simp [State.push]

@[simp] theorem State.push_calls (s : State) (b : Byte) : (s.push b).calls = s.calls := by simp [State.push]

@[simp] theorem State.push_cycles (s : State) (b : Byte) : (s.push b).cycles = s.cycles := by simp [State.push]

@[simp] theorem State.push_out (s : State) (b : Byte) : (s.push b).out = s.out := by simp [State.push]

@[simp] theorem State.push_callbacks (s : State) (b : Byte) : (s.push b).callbacks = s.callbacks := by simp [State.push]

@[simp] theorem State.push_events (s : State) (b : Byte) : (s.push b).events = s.events := by simp [State.push]

@[simp] theorem State.push_loadResult (s : State) (b : Byte) : (s.push b).loadResult = s.loadResult := by simp [State.push]

@[simp] theorem State.push_sp (s : State) (b : Byte) : (s.push b).sp = s.sp - 1 := rfl

@[simp] theorem State.popped_sp (s : State) : s.popped.sp = s.sp + 1 := rfl

@[simp] theorem State.popped_a (s : State) : s.popped.a = s.a := rfl

@[simp] theorem State.popped_x (s : State) : s.popped.x = s.x := rfl

@[simp] theorem State.popped_y (s : State) : s.popped.y = s.y := rfl

@[simp] theorem State.popped_p (s : State) : s.popped.p = s.p := rfl

@[simp] theorem State.popped_pc (s : State) : s.popped.pc = s.pc := rfl

@[simp] theorem State.popped_mem (s : State) : s.popped.mem = s.mem := rfl

@[simp] theorem State.popped_cache (s : State) : s.popped.cache = s.cache := rfl

@[simp] theorem State.popped_engine (s : State) : s.popped.engine = s.engine := rfl

@[simp] theorem State.popped_song (s : State) : s.popped.song = s.song := rfl

@[simp] theorem State.popped_play (s : State) : s.popped.play = s.play := rfl

@[simp] theorem State.popped_unsupCount (s : State) : s.popped.unsupCount = s.unsupCount := rfl

@[simp] theorem State.popped_params (s : State) : s.popped.params = s.params := rfl

@[simp] theorem State.popped_ctl (s : State) : s.popped.ctl = s.ctl := rfl

@[simp] theorem State.popped_task (s : State) : s.popped.task = s.task := rfl

@[simp] theorem State.popped_calls (s : State) : s.popped.calls = s.calls := rfl

@[simp] theorem State.popped_cycles (s : State) : s.popped.cycles = s.cycles := rfl

@[simp] theorem State.popped_out (s : State) : s.popped.out = s.out := rfl

@[simp] theorem State.popped_callbacks (s : State) : s.popped.callbacks = s.callbacks := rfl

@[simp] theorem State.popped_events (s : State) : s.popped.events = s.events := rfl

@[simp] theorem State.popped_loadResult (s : State) : s.popped.loadResult = s.loadResult := rfl

/-- UNSUP_LEN answers a length from 1 to 3. -/
theorem lengthIn_bounds (ul : ByteTable UnsupLength) (op : Byte) : 1 ≤ lengthIn ul op ∧ lengthIn ul op ≤ 3 := by
  unfold lengthIn
  cases ul.entry op <;> decide

/-- Fetching and writing commute. -/
theorem State.memWrite_retire (s : State) (n : Word) (op : Byte) (c : Nat) (a : Word) (v : Byte) :
    (s.retire n op c).memWrite a v = (s.memWrite a v).retire n op c := by
  unfold State.memWrite State.retire
  simp only
  split <;> rfl

/-- A write and a change of the status commute. -/
theorem State.memWrite_setP (s : State) (q : Byte) (a : Word) (v : Byte) :
    (s.setP q).memWrite a v = (s.memWrite a v).setP q := by
  unfold State.memWrite State.setP
  simp only
  split <;> rfl

/-- A write and a change of the stack pointer commute. -/
theorem State.memWrite_setSP (s : State) (q : Byte) (a : Word) (v : Byte) :
    (s.setSP q).memWrite a v = (s.memWrite a v).setSP q := by
  unfold State.memWrite State.setSP
  simp only
  split <;> rfl

/-- Reading does not see the program counter. -/
@[simp] theorem State.memRead_retire (s : State) (n : Word) (op : Byte) (c : Nat) (a : Word) : (s.retire n op c).memRead a = s.memRead a :=
  rfl

/-- A write touches no byte but its own. -/
theorem State.memRead_memWrite_of_ne (s : State) {a b : Word} (v : Byte) (h : b ≠ a) :
    (s.memWrite a v).memRead b = s.memRead b := by
  have hn : b.toNat ≠ a.toNat := fun e => h (BitVec.eq_of_toNat_eq e)
  rcases s.memWrite_cases a v with ⟨o, ho, e⟩ | ⟨ho, e⟩ <;> rw [e] <;> unfold State.memRead <;> simp only <;> split
  · rename_i o' ho'
    rw [windowOffset_eq_some] at ho ho'
    rw [RegisterCache.shadowByte_congr (bridgeCache_shadow ..) (bridgeCache_more ..)]
    exact RegisterCache.shadowByte_setShadow_of_ne _ _ (by omega)
  · rfl
  · rfl
  · exact Memory.read_write_of_ne _ _ hn

/-- The byte that was written reads back. -/
theorem State.memRead_memWrite_self (s : State) (a : Word) (v : Byte) (h : s.mem.wf = true)
    (hm : s.cache.more.wf = true) : (s.memWrite a v).memRead a = v := by
  rcases s.memWrite_cases a v with ⟨o, ho, e⟩ | ⟨ho, e⟩ <;> rw [e] <;> unfold State.memRead <;> simp only [ho]
  · rw [RegisterCache.shadowByte_congr (bridgeCache_shadow ..) (bridgeCache_more ..)]
    exact RegisterCache.shadowByte_setShadow_self _ _ _ hm
  · exact Memory.read_write_self _ _ _ h

/-- A write keeps the canonical form. -/
theorem State.memWrite_wf (s : State) (a : Word) (v : Byte) (h : s.mem.wf = true) : (s.memWrite a v).mem.wf = true := by
  rcases s.memWrite_cases a v with ⟨o, ho, e⟩ | ⟨ho, e⟩ <;> rw [e]
  · exact h
  · exact Memory.write_wf _ h a.isLt

/-- A write keeps the canonical form of the shadow bytes from offset 32 on. -/
theorem State.memWrite_more_wf (s : State) (a : Word) (v : Byte) (h : s.cache.more.wf = true) :
    (s.memWrite a v).cache.more.wf = true := by
  rcases s.memWrite_cases a v with ⟨o, ho, e⟩ | ⟨ho, e⟩ <;> rw [e]
  · simpa using RegisterCache.setShadow_wf _ _ (windowOffset_lt ho) h
  · exact h

/-- A byte put for the fetch keeps the canonical form. -/
theorem State.poke_wf (s : State) (a : Word) (v : Byte) (h : s.mem.wf = true) : (s.poke a v).mem.wf = true := by
  unfold State.poke
  split
  · exact h
  · exact Memory.write_wf _ h a.isLt

/-- The push of a byte keeps the canonical form. -/
theorem State.push_wf (s : State) (b : Byte) (h : s.mem.wf = true) : (s.push b).mem.wf = true :=
  s.memWrite_wf _ b h

end Sys2Proof.Machine
end

