-- ==== Sys2Proof/Laws/PerInstr.lean ====
section
/-! SUPPORT. What holds of every instruction as syntax, one lemma for each constructor. -/

namespace Sys2Proof.Laws

/-- The instruction is well-formed, and whatever UNSUP_LEN is, its encoding has one to three bytes, of which a step fetches
no more, and begins with the opcode byte. -/
def EncodingShape.Statement (i : Instr) : Prop :=
  i.wellFormed = true ∧
    ∀ ul, 1 ≤ i.length ul ∧ i.length ul ≤ 3 ∧ i.fetched ul ≤ i.length ul ∧ encode ul i = i.opcode :: (encode ul i).tail

/-- The bytes of an unsupported opcode are one to three. -/
theorem skippedBytes_length (ul : ByteTable UnsupLength) (op : Byte) :
    1 ≤ (skippedBytes ul op).length ∧ (skippedBytes ul op).length ≤ 3 := by
  unfold skippedBytes lengthIn
  cases ul.entry op <;> exact ⟨Nat.le_of_ble_eq_true rfl, Nat.le_of_ble_eq_true rfl⟩

/-- The shape of an instruction that is encoded as an unsupported opcode. -/
theorem encodingShape_of_skipped {i : Instr} {op : Byte} (h : ∀ ul, encode ul i = skippedBytes ul op)
    (hu : unsupportedByte i.opcode = true) : EncodingShape.Statement i := by
  refine ⟨rfl, fun ul => ?_⟩
  have ho : i.opcode = op := by rw [Instr.opcode, h]; rfl
  have hl := skippedBytes_length ul op
  have hf : i.fetched ul = 1 := by rw [Instr.fetched, hu]; rfl
  rw [← h ul] at hl
  exact ⟨hl.1, hl.2, by rw [hf]; exact hl.1, by rw [h ul, ho]; rfl⟩

theorem EncodingShape.brk : EncodingShape.Statement .brk :=
  ⟨rfl, fun _ => ⟨Nat.le_of_ble_eq_true rfl, Nat.le_of_ble_eq_true rfl, Nat.le_of_ble_eq_true rfl, rfl⟩⟩
theorem EncodingShape.oraIzx (zp : Byte) : EncodingShape.Statement (.oraIzx zp) :=
  ⟨rfl, fun _ => ⟨Nat.le_of_ble_eq_true rfl, Nat.le_of_ble_eq_true rfl, Nat.le_of_ble_eq_true rfl, rfl⟩⟩
theorem EncodingShape.unsup02 : EncodingShape.Statement .unsup02 :=
  encodingShape_of_skipped (fun _ => rfl) rfl
theorem EncodingShape.unsup03 : EncodingShape.Statement .unsup03 :=
  encodingShape_of_skipped (fun _ => rfl) rfl
theorem EncodingShape.unsup04 : EncodingShape.Statement .unsup04 :=
  encodingShape_of_skipped (fun _ => rfl) rfl
theorem EncodingShape.oraZp (zp : Byte) : EncodingShape.Statement (.oraZp zp) :=
  ⟨rfl, fun _ => ⟨Nat.le_of_ble_eq_true rfl, Nat.le_of_ble_eq_true rfl, Nat.le_of_ble_eq_true rfl, rfl⟩⟩
theorem EncodingShape.aslZp (zp : Byte) : EncodingShape.Statement (.aslZp zp) :=
  ⟨rfl, fun _ => ⟨Nat.le_of_ble_eq_true rfl, Nat.le_of_ble_eq_true rfl, Nat.le_of_ble_eq_true rfl, rfl⟩⟩
theorem EncodingShape.unsup07 : EncodingShape.Statement .unsup07 :=
  encodingShape_of_skipped (fun _ => rfl) rfl
theorem EncodingShape.php : EncodingShape.Statement .php :=
  ⟨rfl, fun _ => ⟨Nat.le_of_ble_eq_true rfl, Nat.le_of_ble_eq_true rfl, Nat.le_of_ble_eq_true rfl, rfl⟩⟩
theorem EncodingShape.oraImm (m : Byte) : EncodingShape.Statement (.oraImm m) :=
  ⟨rfl, fun _ => ⟨Nat.le_of_ble_eq_true rfl, Nat.le_of_ble_eq_true rfl, Nat.le_of_ble_eq_true rfl, rfl⟩⟩
theorem EncodingShape.aslAcc : EncodingShape.Statement .aslAcc :=
  ⟨rfl, fun _ => ⟨Nat.le_of_ble_eq_true rfl, Nat.le_of_ble_eq_true rfl, Nat.le_of_ble_eq_true rfl, rfl⟩⟩
theorem EncodingShape.unsup0B : EncodingShape.Statement .unsup0B :=
  encodingShape_of_skipped (fun _ => rfl) rfl
theorem EncodingShape.unsup0C : EncodingShape.Statement .unsup0C :=
  encodingShape_of_skipped (fun _ => rfl) rfl
theorem EncodingShape.oraAbs (addr : Word) : EncodingShape.Statement (.oraAbs addr) :=
  ⟨rfl, fun _ => ⟨Nat.le_of_ble_eq_true rfl, Nat.le_of_ble_eq_true rfl, Nat.le_of_ble_eq_true rfl, rfl⟩⟩
theorem EncodingShape.aslAbs (addr : Word) : EncodingShape.Statement (.aslAbs addr) :=
  ⟨rfl, fun _ => ⟨Nat.le_of_ble_eq_true rfl, Nat.le_of_ble_eq_true rfl, Nat.le_of_ble_eq_true rfl, rfl⟩⟩
theorem EncodingShape.unsup0F : EncodingShape.Statement .unsup0F :=
  encodingShape_of_skipped (fun _ => rfl) rfl
theorem EncodingShape.bpl (off : Byte) : EncodingShape.Statement (.bpl off) :=
  ⟨rfl, fun _ => ⟨Nat.le_of_ble_eq_true rfl, Nat.le_of_ble_eq_true rfl, Nat.le_of_ble_eq_true rfl, rfl⟩⟩
theorem EncodingShape.oraIzy (zp : Byte) : EncodingShape.Statement (.oraIzy zp) :=
  ⟨rfl, fun _ => ⟨Nat.le_of_ble_eq_true rfl, Nat.le_of_ble_eq_true rfl, Nat.le_of_ble_eq_true rfl, rfl⟩⟩
theorem EncodingShape.unsup12 : EncodingShape.Statement .unsup12 :=
  encodingShape_of_skipped (fun _ => rfl) rfl
theorem EncodingShape.unsup13 : EncodingShape.Statement .unsup13 :=
  encodingShape_of_skipped (fun _ => rfl) rfl
theorem EncodingShape.unsup14 : EncodingShape.Statement .unsup14 :=
  encodingShape_of_skipped (fun _ => rfl) rfl
theorem EncodingShape.oraZpx (zp : Byte) : EncodingShape.Statement (.oraZpx zp) :=
  ⟨rfl, fun _ => ⟨Nat.le_of_ble_eq_true rfl, Nat.le_of_ble_eq_true rfl, Nat.le_of_ble_eq_true rfl, rfl⟩⟩
theorem EncodingShape.aslZpx (zp : Byte) : EncodingShape.Statement (.aslZpx zp) :=
  ⟨rfl, fun _ => ⟨Nat.le_of_ble_eq_true rfl, Nat.le_of_ble_eq_true rfl, Nat.le_of_ble_eq_true rfl, rfl⟩⟩
theorem EncodingShape.unsup17 : EncodingShape.Statement .unsup17 :=
  encodingShape_of_skipped (fun _ => rfl) rfl
theorem EncodingShape.clc : EncodingShape.Statement .clc :=
  ⟨rfl, fun _ => ⟨Nat.le_of_ble_eq_true rfl, Nat.le_of_ble_eq_true rfl, Nat.le_of_ble_eq_true rfl, rfl⟩⟩
theorem EncodingShape.oraAby (base : Word) : EncodingShape.Statement (.oraAby base) :=
  ⟨rfl, fun _ => ⟨Nat.le_of_ble_eq_true rfl, Nat.le_of_ble_eq_true rfl, Nat.le_of_ble_eq_true rfl, rfl⟩⟩
theorem EncodingShape.unsup1A : EncodingShape.Statement .unsup1A :=
  encodingShape_of_skipped (fun _ => rfl) rfl
theorem EncodingShape.unsup1B : EncodingShape.Statement .unsup1B :=
  encodingShape_of_skipped (fun _ => rfl) rfl
theorem EncodingShape.unsup1C : EncodingShape.Statement .unsup1C :=
  encodingShape_of_skipped (fun _ => rfl) rfl
theorem EncodingShape.oraAbx (base : Word) : EncodingShape.Statement (.oraAbx base) :=
  ⟨rfl, fun _ => ⟨Nat.le_of_ble_eq_true rfl, Nat.le_of_ble_eq_true rfl, Nat.le_of_ble_eq_true rfl, rfl⟩⟩
theorem EncodingShape.aslAbx (base : Word) : EncodingShape.Statement (.aslAbx base) :=
  ⟨rfl, fun _ => ⟨Nat.le_of_ble_eq_true rfl, Nat.le_of_ble_eq_true rfl, Nat.le_of_ble_eq_true rfl, rfl⟩⟩
theorem EncodingShape.unsup1F : EncodingShape.Statement .unsup1F :=
  encodingShape_of_skipped (fun _ => rfl) rfl
theorem EncodingShape.jsr (addr : Word) : EncodingShape.Statement (.jsr addr) :=
  ⟨rfl, fun _ => ⟨Nat.le_of_ble_eq_true rfl, Nat.le_of_ble_eq_true rfl, Nat.le_of_ble_eq_true rfl, rfl⟩⟩
theorem EncodingShape.andIzx (zp : Byte) : EncodingShape.Statement (.andIzx zp) :=
  ⟨rfl, fun _ => ⟨Nat.le_of_ble_eq_true rfl, Nat.le_of_ble_eq_true rfl, Nat.le_of_ble_eq_true rfl, rfl⟩⟩
theorem EncodingShape.unsup22 : EncodingShape.Statement .unsup22 :=
  encodingShape_of_skipped (fun _ => rfl) rfl
theorem EncodingShape.unsup23 : EncodingShape.Statement .unsup23 :=
  encodingShape_of_skipped (fun _ => rfl) rfl
theorem EncodingShape.bitZp (zp : Byte) : EncodingShape.Statement (.bitZp zp) :=
  ⟨rfl, fun _ => ⟨Nat.le_of_ble_eq_true rfl, Nat.le_of_ble_eq_true rfl, Nat.le_of_ble_eq_true rfl, rfl⟩⟩
theorem EncodingShape.andZp (zp : Byte) : EncodingShape.Statement (.andZp zp) :=
  ⟨rfl, fun _ => ⟨Nat.le_of_ble_eq_true rfl, Nat.le_of_ble_eq_true rfl, Nat.le_of_ble_eq_true rfl, rfl⟩⟩
theorem EncodingShape.rolZp (zp : Byte) : EncodingShape.Statement (.rolZp zp) :=
  ⟨rfl, fun _ => ⟨Nat.le_of_ble_eq_true rfl, Nat.le_of_ble_eq_true rfl, Nat.le_of_ble_eq_true rfl, rfl⟩⟩
theorem EncodingShape.unsup27 : EncodingShape.Statement .unsup27 :=
  encodingShape_of_skipped (fun _ => rfl) rfl
theorem EncodingShape.plp : EncodingShape.Statement .plp :=
  ⟨rfl, fun _ => ⟨Nat.le_of_ble_eq_true rfl, Nat.le_of_ble_eq_true rfl, Nat.le_of_ble_eq_true rfl, rfl⟩⟩
theorem EncodingShape.andImm (m : Byte) : EncodingShape.Statement (.andImm m) :=
  ⟨rfl, fun _ => ⟨Nat.le_of_ble_eq_true rfl, Nat.le_of_ble_eq_true rfl, Nat.le_of_ble_eq_true rfl, rfl⟩⟩
theorem EncodingShape.rolAcc : EncodingShape.Statement .rolAcc :=
  ⟨rfl, fun _ => ⟨Nat.le_of_ble_eq_true rfl, Nat.le_of_ble_eq_true rfl, Nat.le_of_ble_eq_true rfl, rfl⟩⟩
theorem EncodingShape.unsup2B : EncodingShape.Statement .unsup2B :=
  encodingShape_of_skipped (fun _ => rfl) rfl
theorem EncodingShape.bitAbs (addr : Word) : EncodingShape.Statement (.bitAbs addr) :=
  ⟨rfl, fun _ => ⟨Nat.le_of_ble_eq_true rfl, Nat.le_of_ble_eq_true rfl, Nat.le_of_ble_eq_true rfl, rfl⟩⟩
theorem EncodingShape.andAbs (addr : Word) : EncodingShape.Statement (.andAbs addr) :=
  ⟨rfl, fun _ => ⟨Nat.le_of_ble_eq_true rfl, Nat.le_of_ble_eq_true rfl, Nat.le_of_ble_eq_true rfl, rfl⟩⟩
theorem EncodingShape.rolAbs (addr : Word) : EncodingShape.Statement (.rolAbs addr) :=
  ⟨rfl, fun _ => ⟨Nat.le_of_ble_eq_true rfl, Nat.le_of_ble_eq_true rfl, Nat.le_of_ble_eq_true rfl, rfl⟩⟩
theorem EncodingShape.unsup2F : EncodingShape.Statement .unsup2F :=
  encodingShape_of_skipped (fun _ => rfl) rfl
theorem EncodingShape.bmi (off : Byte) : EncodingShape.Statement (.bmi off) :=
  ⟨rfl, fun _ => ⟨Nat.le_of_ble_eq_true rfl, Nat.le_of_ble_eq_true rfl, Nat.le_of_ble_eq_true rfl, rfl⟩⟩
theorem EncodingShape.andIzy (zp : Byte) : EncodingShape.Statement (.andIzy zp) :=
  ⟨rfl, fun _ => ⟨Nat.le_of_ble_eq_true rfl, Nat.le_of_ble_eq_true rfl, Nat.le_of_ble_eq_true rfl, rfl⟩⟩
theorem EncodingShape.unsup32 : EncodingShape.Statement .unsup32 :=
  encodingShape_of_skipped (fun _ => rfl) rfl
theorem EncodingShape.unsup33 : EncodingShape.Statement .unsup33 :=
  encodingShape_of_skipped (fun _ => rfl) rfl
theorem EncodingShape.unsup34 : EncodingShape.Statement .unsup34 :=
  encodingShape_of_skipped (fun _ => rfl) rfl
theorem EncodingShape.andZpx (zp : Byte) : EncodingShape.Statement (.andZpx zp) :=
  ⟨rfl, fun _ => ⟨Nat.le_of_ble_eq_true rfl, Nat.le_of_ble_eq_true rfl, Nat.le_of_ble_eq_true rfl, rfl⟩⟩
theorem EncodingShape.rolZpx (zp : Byte) : EncodingShape.Statement (.rolZpx zp) :=
  ⟨rfl, fun _ => ⟨Nat.le_of_ble_eq_true rfl, Nat.le_of_ble_eq_true rfl, Nat.le_of_ble_eq_true rfl, rfl⟩⟩
theorem EncodingShape.unsup37 : EncodingShape.Statement .unsup37 :=
  encodingShape_of_skipped (fun _ => rfl) rfl
theorem EncodingShape.sec : EncodingShape.Statement .sec :=
  ⟨rfl, fun _ => ⟨Nat.le_of_ble_eq_true rfl, Nat.le_of_ble_eq_true rfl, Nat.le_of_ble_eq_true rfl, rfl⟩⟩
theorem EncodingShape.andAby (base : Word) : EncodingShape.Statement (.andAby base) :=
  ⟨rfl, fun _ => ⟨Nat.le_of_ble_eq_true rfl, Nat.le_of_ble_eq_true rfl, Nat.le_of_ble_eq_true rfl, rfl⟩⟩
theorem EncodingShape.unsup3A : EncodingShape.Statement .unsup3A :=
  encodingShape_of_skipped (fun _ => rfl) rfl
theorem EncodingShape.unsup3B : EncodingShape.Statement .unsup3B :=
  encodingShape_of_skipped (fun _ => rfl) rfl
theorem EncodingShape.unsup3C : EncodingShape.Statement .unsup3C :=
  encodingShape_of_skipped (fun _ => rfl) rfl
theorem EncodingShape.andAbx (base : Word) : EncodingShape.Statement (.andAbx base) :=
  ⟨rfl, fun _ => ⟨Nat.le_of_ble_eq_true rfl, Nat.le_of_ble_eq_true rfl, Nat.le_of_ble_eq_true rfl, rfl⟩⟩
theorem EncodingShape.rolAbx (base : Word) : EncodingShape.Statement (.rolAbx base) :=
  ⟨rfl, fun _ => ⟨Nat.le_of_ble_eq_true rfl, Nat.le_of_ble_eq_true rfl, Nat.le_of_ble_eq_true rfl, rfl⟩⟩
theorem EncodingShape.unsup3F : EncodingShape.Statement .unsup3F :=
  encodingShape_of_skipped (fun _ => rfl) rfl
theorem EncodingShape.rti : EncodingShape.Statement .rti :=
  ⟨rfl, fun _ => ⟨Nat.le_of_ble_eq_true rfl, Nat.le_of_ble_eq_true rfl, Nat.le_of_ble_eq_true rfl, rfl⟩⟩
theorem EncodingShape.eorIzx (zp : Byte) : EncodingShape.Statement (.eorIzx zp) :=
  ⟨rfl, fun _ => ⟨Nat.le_of_ble_eq_true rfl, Nat.le_of_ble_eq_true rfl, Nat.le_of_ble_eq_true rfl, rfl⟩⟩
theorem EncodingShape.unsup42 : EncodingShape.Statement .unsup42 :=
  encodingShape_of_skipped (fun _ => rfl) rfl
theorem EncodingShape.unsup43 : EncodingShape.Statement .unsup43 :=
  encodingShape_of_skipped (fun _ => rfl) rfl
theorem EncodingShape.unsup44 : EncodingShape.Statement .unsup44 :=
  encodingShape_of_skipped (fun _ => rfl) rfl
theorem EncodingShape.eorZp (zp : Byte) : EncodingShape.Statement (.eorZp zp) :=
  ⟨rfl, fun _ => ⟨Nat.le_of_ble_eq_true rfl, Nat.le_of_ble_eq_true rfl, Nat.le_of_ble_eq_true rfl, rfl⟩⟩
theorem EncodingShape.lsrZp (zp : Byte) : EncodingShape.Statement (.lsrZp zp) :=
  ⟨rfl, fun _ => ⟨Nat.le_of_ble_eq_true rfl, Nat.le_of_ble_eq_true rfl, Nat.le_of_ble_eq_true rfl, rfl⟩⟩
theorem EncodingShape.unsup47 : EncodingShape.Statement .unsup47 :=
  encodingShape_of_skipped (fun _ => rfl) rfl
theorem EncodingShape.pha : EncodingShape.Statement .pha :=
  ⟨rfl, fun _ => ⟨Nat.le_of_ble_eq_true rfl, Nat.le_of_ble_eq_true rfl, Nat.le_of_ble_eq_true rfl, rfl⟩⟩
theorem EncodingShape.eorImm (m : Byte) : EncodingShape.Statement (.eorImm m) :=
  ⟨rfl, fun _ => ⟨Nat.le_of_ble_eq_true rfl, Nat.le_of_ble_eq_true rfl, Nat.le_of_ble_eq_true rfl, rfl⟩⟩
theorem EncodingShape.lsrAcc : EncodingShape.Statement .lsrAcc :=
  ⟨rfl, fun _ => ⟨Nat.le_of_ble_eq_true rfl, Nat.le_of_ble_eq_true rfl, Nat.le_of_ble_eq_true rfl, rfl⟩⟩
theorem EncodingShape.unsup4B : EncodingShape.Statement .unsup4B :=
  encodingShape_of_skipped (fun _ => rfl) rfl
theorem EncodingShape.jmpAbs (addr : Word) : EncodingShape.Statement (.jmpAbs addr) :=
  ⟨rfl, fun _ => ⟨Nat.le_of_ble_eq_true rfl, Nat.le_of_ble_eq_true rfl, Nat.le_of_ble_eq_true rfl, rfl⟩⟩
theorem EncodingShape.eorAbs (addr : Word) : EncodingShape.Statement (.eorAbs addr) :=
  ⟨rfl, fun _ => ⟨Nat.le_of_ble_eq_true rfl, Nat.le_of_ble_eq_true rfl, Nat.le_of_ble_eq_true rfl, rfl⟩⟩
theorem EncodingShape.lsrAbs (addr : Word) : EncodingShape.Statement (.lsrAbs addr) :=
  ⟨rfl, fun _ => ⟨Nat.le_of_ble_eq_true rfl, Nat.le_of_ble_eq_true rfl, Nat.le_of_ble_eq_true rfl, rfl⟩⟩
theorem EncodingShape.unsup4F : EncodingShape.Statement .unsup4F :=
  encodingShape_of_skipped (fun _ => rfl) rfl
theorem EncodingShape.bvc (off : Byte) : EncodingShape.Statement (.bvc off) :=
  ⟨rfl, fun _ => ⟨Nat.le_of_ble_eq_true rfl, Nat.le_of_ble_eq_true rfl, Nat.le_of_ble_eq_true rfl, rfl⟩⟩
theorem EncodingShape.eorIzy (zp : Byte) : EncodingShape.Statement (.eorIzy zp) :=
  ⟨rfl, fun _ => ⟨Nat.le_of_ble_eq_true rfl, Nat.le_of_ble_eq_true rfl, Nat.le_of_ble_eq_true rfl, rfl⟩⟩
theorem EncodingShape.unsup52 : EncodingShape.Statement .unsup52 :=
  encodingShape_of_skipped (fun _ => rfl) rfl
theorem EncodingShape.unsup53 : EncodingShape.Statement .unsup53 :=
  encodingShape_of_skipped (fun _ => rfl) rfl
theorem EncodingShape.unsup54 : EncodingShape.Statement .unsup54 :=
  encodingShape_of_skipped (fun _ => rfl) rfl
theorem EncodingShape.eorZpx (zp : Byte) : EncodingShape.Statement (.eorZpx zp) :=
  ⟨rfl, fun _ => ⟨Nat.le_of_ble_eq_true rfl, Nat.le_of_ble_eq_true rfl, Nat.le_of_ble_eq_true rfl, rfl⟩⟩
theorem EncodingShape.lsrZpx (zp : Byte) : EncodingShape.Statement (.lsrZpx zp) :=
  ⟨rfl, fun _ => ⟨Nat.le_of_ble_eq_true rfl, Nat.le_of_ble_eq_true rfl, Nat.le_of_ble_eq_true rfl, rfl⟩⟩
theorem EncodingShape.unsup57 : EncodingShape.Statement .unsup57 :=
  encodingShape_of_skipped (fun _ => rfl) rfl
theorem EncodingShape.cli : EncodingShape.Statement .cli :=
  ⟨rfl, fun _ => ⟨Nat.le_of_ble_eq_true rfl, Nat.le_of_ble_eq_true rfl, Nat.le_of_ble_eq_true rfl, rfl⟩⟩
theorem EncodingShape.eorAby (base : Word) : EncodingShape.Statement (.eorAby base) :=
  ⟨rfl, fun _ => ⟨Nat.le_of_ble_eq_true rfl, Nat.le_of_ble_eq_true rfl, Nat.le_of_ble_eq_true rfl, rfl⟩⟩
theorem EncodingShape.unsup5A : EncodingShape.Statement .unsup5A :=
  encodingShape_of_skipped (fun _ => rfl) rfl
theorem EncodingShape.unsup5B : EncodingShape.Statement .unsup5B :=
  encodingShape_of_skipped (fun _ => rfl) rfl
theorem EncodingShape.unsup5C : EncodingShape.Statement .unsup5C :=
  encodingShape_of_skipped (fun _ => rfl) rfl
theorem EncodingShape.eorAbx (base : Word) : EncodingShape.Statement (.eorAbx base) :=
  ⟨rfl, fun _ => ⟨Nat.le_of_ble_eq_true rfl, Nat.le_of_ble_eq_true rfl, Nat.le_of_ble_eq_true rfl, rfl⟩⟩
theorem EncodingShape.lsrAbx (base : Word) : EncodingShape.Statement (.lsrAbx base) :=
  ⟨rfl, fun _ => ⟨Nat.le_of_ble_eq_true rfl, Nat.le_of_ble_eq_true rfl, Nat.le_of_ble_eq_true rfl, rfl⟩⟩
theorem EncodingShape.unsup5F : EncodingShape.Statement .unsup5F :=
  encodingShape_of_skipped (fun _ => rfl) rfl
theorem EncodingShape.rts : EncodingShape.Statement .rts :=
  ⟨rfl, fun _ => ⟨Nat.le_of_ble_eq_true rfl, Nat.le_of_ble_eq_true rfl, Nat.le_of_ble_eq_true rfl, rfl⟩⟩
theorem EncodingShape.adcIzx (zp : Byte) : EncodingShape.Statement (.adcIzx zp) :=
  ⟨rfl, fun _ => ⟨Nat.le_of_ble_eq_true rfl, Nat.le_of_ble_eq_true rfl, Nat.le_of_ble_eq_true rfl, rfl⟩⟩
theorem EncodingShape.unsup62 : EncodingShape.Statement .unsup62 :=
  encodingShape_of_skipped (fun _ => rfl) rfl
theorem EncodingShape.unsup63 : EncodingShape.Statement .unsup63 :=
  encodingShape_of_skipped (fun _ => rfl) rfl
theorem EncodingShape.unsup64 : EncodingShape.Statement .unsup64 :=
  encodingShape_of_skipped (fun _ => rfl) rfl
theorem EncodingShape.adcZp (zp : Byte) : EncodingShape.Statement (.adcZp zp) :=
  ⟨rfl, fun _ => ⟨Nat.le_of_ble_eq_true rfl, Nat.le_of_ble_eq_true rfl, Nat.le_of_ble_eq_true rfl, rfl⟩⟩
theorem EncodingShape.rorZp (zp : Byte) : EncodingShape.Statement (.rorZp zp) :=
  ⟨rfl, fun _ => ⟨Nat.le_of_ble_eq_true rfl, Nat.le_of_ble_eq_true rfl, Nat.le_of_ble_eq_true rfl, rfl⟩⟩
theorem EncodingShape.unsup67 : EncodingShape.Statement .unsup67 :=
  encodingShape_of_skipped (fun _ => rfl) rfl
theorem EncodingShape.pla : EncodingShape.Statement .pla :=
  ⟨rfl, fun _ => ⟨Nat.le_of_ble_eq_true rfl, Nat.le_of_ble_eq_true rfl, Nat.le_of_ble_eq_true rfl, rfl⟩⟩
theorem EncodingShape.adcImm (m : Byte) : EncodingShape.Statement (.adcImm m) :=
  ⟨rfl, fun _ => ⟨Nat.le_of_ble_eq_true rfl, Nat.le_of_ble_eq_true rfl, Nat.le_of_ble_eq_true rfl, rfl⟩⟩
theorem EncodingShape.rorAcc : EncodingShape.Statement .rorAcc :=
  ⟨rfl, fun _ => ⟨Nat.le_of_ble_eq_true rfl, Nat.le_of_ble_eq_true rfl, Nat.le_of_ble_eq_true rfl, rfl⟩⟩
theorem EncodingShape.unsup6B : EncodingShape.Statement .unsup6B :=
  encodingShape_of_skipped (fun _ => rfl) rfl
theorem EncodingShape.jmpInd (ptr : Word) : EncodingShape.Statement (.jmpInd ptr) :=
  ⟨rfl, fun _ => ⟨Nat.le_of_ble_eq_true rfl, Nat.le_of_ble_eq_true rfl, Nat.le_of_ble_eq_true rfl, rfl⟩⟩
theorem EncodingShape.adcAbs (addr : Word) : EncodingShape.Statement (.adcAbs addr) :=
  ⟨rfl, fun _ => ⟨Nat.le_of_ble_eq_true rfl, Nat.le_of_ble_eq_true rfl, Nat.le_of_ble_eq_true rfl, rfl⟩⟩
theorem EncodingShape.rorAbs (addr : Word) : EncodingShape.Statement (.rorAbs addr) :=
  ⟨rfl, fun _ => ⟨Nat.le_of_ble_eq_true rfl, Nat.le_of_ble_eq_true rfl, Nat.le_of_ble_eq_true rfl, rfl⟩⟩
theorem EncodingShape.unsup6F : EncodingShape.Statement .unsup6F :=
  encodingShape_of_skipped (fun _ => rfl) rfl
theorem EncodingShape.bvs (off : Byte) : EncodingShape.Statement (.bvs off) :=
  ⟨rfl, fun _ => ⟨Nat.le_of_ble_eq_true rfl, Nat.le_of_ble_eq_true rfl, Nat.le_of_ble_eq_true rfl, rfl⟩⟩
theorem EncodingShape.adcIzy (zp : Byte) : EncodingShape.Statement (.adcIzy zp) :=
  ⟨rfl, fun _ => ⟨Nat.le_of_ble_eq_true rfl, Nat.le_of_ble_eq_true rfl, Nat.le_of_ble_eq_true rfl, rfl⟩⟩
theorem EncodingShape.unsup72 : EncodingShape.Statement .unsup72 :=
  encodingShape_of_skipped (fun _ => rfl) rfl
theorem EncodingShape.unsup73 : EncodingShape.Statement .unsup73 :=
  encodingShape_of_skipped (fun _ => rfl) rfl
theorem EncodingShape.unsup74 : EncodingShape.Statement .unsup74 :=
  encodingShape_of_skipped (fun _ => rfl) rfl
theorem EncodingShape.adcZpx (zp : Byte) : EncodingShape.Statement (.adcZpx zp) :=
  ⟨rfl, fun _ => ⟨Nat.le_of_ble_eq_true rfl, Nat.le_of_ble_eq_true rfl, Nat.le_of_ble_eq_true rfl, rfl⟩⟩
theorem EncodingShape.rorZpx (zp : Byte) : EncodingShape.Statement (.rorZpx zp) :=
  ⟨rfl, fun _ => ⟨Nat.le_of_ble_eq_true rfl, Nat.le_of_ble_eq_true rfl, Nat.le_of_ble_eq_true rfl, rfl⟩⟩
theorem EncodingShape.unsup77 : EncodingShape.Statement .unsup77 :=
  encodingShape_of_skipped (fun _ => rfl) rfl
theorem EncodingShape.sei : EncodingShape.Statement .sei :=
  ⟨rfl, fun _ => ⟨Nat.le_of_ble_eq_true rfl, Nat.le_of_ble_eq_true rfl, Nat.le_of_ble_eq_true rfl, rfl⟩⟩
theorem EncodingShape.adcAby (base : Word) : EncodingShape.Statement (.adcAby base) :=
  ⟨rfl, fun _ => ⟨Nat.le_of_ble_eq_true rfl, Nat.le_of_ble_eq_true rfl, Nat.le_of_ble_eq_true rfl, rfl⟩⟩
theorem EncodingShape.unsup7A : EncodingShape.Statement .unsup7A :=
  encodingShape_of_skipped (fun _ => rfl) rfl
theorem EncodingShape.unsup7B : EncodingShape.Statement .unsup7B :=
  encodingShape_of_skipped (fun _ => rfl) rfl
theorem EncodingShape.unsup7C : EncodingShape.Statement .unsup7C :=
  encodingShape_of_skipped (fun _ => rfl) rfl
theorem EncodingShape.adcAbx (base : Word) : EncodingShape.Statement (.adcAbx base) :=
  ⟨rfl, fun _ => ⟨Nat.le_of_ble_eq_true rfl, Nat.le_of_ble_eq_true rfl, Nat.le_of_ble_eq_true rfl, rfl⟩⟩
theorem EncodingShape.rorAbx (base : Word) : EncodingShape.Statement (.rorAbx base) :=
  ⟨rfl, fun _ => ⟨Nat.le_of_ble_eq_true rfl, Nat.le_of_ble_eq_true rfl, Nat.le_of_ble_eq_true rfl, rfl⟩⟩
theorem EncodingShape.unsup7F : EncodingShape.Statement .unsup7F :=
  encodingShape_of_skipped (fun _ => rfl) rfl
theorem EncodingShape.unsup80 : EncodingShape.Statement .unsup80 :=
  encodingShape_of_skipped (fun _ => rfl) rfl
theorem EncodingShape.staIzx (zp : Byte) : EncodingShape.Statement (.staIzx zp) :=
  ⟨rfl, fun _ => ⟨Nat.le_of_ble_eq_true rfl, Nat.le_of_ble_eq_true rfl, Nat.le_of_ble_eq_true rfl, rfl⟩⟩
theorem EncodingShape.unsup82 : EncodingShape.Statement .unsup82 :=
  encodingShape_of_skipped (fun _ => rfl) rfl
theorem EncodingShape.unsup83 : EncodingShape.Statement .unsup83 :=
  encodingShape_of_skipped (fun _ => rfl) rfl
theorem EncodingShape.styZp (zp : Byte) : EncodingShape.Statement (.styZp zp) :=
  ⟨rfl, fun _ => ⟨Nat.le_of_ble_eq_true rfl, Nat.le_of_ble_eq_true rfl, Nat.le_of_ble_eq_true rfl, rfl⟩⟩
theorem EncodingShape.staZp (zp : Byte) : EncodingShape.Statement (.staZp zp) :=
  ⟨rfl, fun _ => ⟨Nat.le_of_ble_eq_true rfl, Nat.le_of_ble_eq_true rfl, Nat.le_of_ble_eq_true rfl, rfl⟩⟩
theorem EncodingShape.stxZp (zp : Byte) : EncodingShape.Statement (.stxZp zp) :=
  ⟨rfl, fun _ => ⟨Nat.le_of_ble_eq_true rfl, Nat.le_of_ble_eq_true rfl, Nat.le_of_ble_eq_true rfl, rfl⟩⟩
theorem EncodingShape.unsup87 : EncodingShape.Statement .unsup87 :=
  encodingShape_of_skipped (fun _ => rfl) rfl
theorem EncodingShape.dey : EncodingShape.Statement .dey :=
  ⟨rfl, fun _ => ⟨Nat.le_of_ble_eq_true rfl, Nat.le_of_ble_eq_true rfl, Nat.le_of_ble_eq_true rfl, rfl⟩⟩
theorem EncodingShape.unsup89 : EncodingShape.Statement .unsup89 :=
  encodingShape_of_skipped (fun _ => rfl) rfl
theorem EncodingShape.txa : EncodingShape.Statement .txa :=
  ⟨rfl, fun _ => ⟨Nat.le_of_ble_eq_true rfl, Nat.le_of_ble_eq_true rfl, Nat.le_of_ble_eq_true rfl, rfl⟩⟩
theorem EncodingShape.unsup8B : EncodingShape.Statement .unsup8B :=
  encodingShape_of_skipped (fun _ => rfl) rfl
theorem EncodingShape.styAbs (addr : Word) : EncodingShape.Statement (.styAbs addr) :=
  ⟨rfl, fun _ => ⟨Nat.le_of_ble_eq_true rfl, Nat.le_of_ble_eq_true rfl, Nat.le_of_ble_eq_true rfl, rfl⟩⟩
theorem EncodingShape.staAbs (addr : Word) : EncodingShape.Statement (.staAbs addr) :=
  ⟨rfl, fun _ => ⟨Nat.le_of_ble_eq_true rfl, Nat.le_of_ble_eq_true rfl, Nat.le_of_ble_eq_true rfl, rfl⟩⟩
theorem EncodingShape.stxAbs (addr : Word) : EncodingShape.Statement (.stxAbs addr) :=
  ⟨rfl, fun _ => ⟨Nat.le_of_ble_eq_true rfl, Nat.le_of_ble_eq_true rfl, Nat.le_of_ble_eq_true rfl, rfl⟩⟩
theorem EncodingShape.unsup8F : EncodingShape.Statement .unsup8F :=
  encodingShape_of_skipped (fun _ => rfl) rfl
theorem EncodingShape.bcc (off : Byte) : EncodingShape.Statement (.bcc off) :=
  ⟨rfl, fun _ => ⟨Nat.le_of_ble_eq_true rfl, Nat.le_of_ble_eq_true rfl, Nat.le_of_ble_eq_true rfl, rfl⟩⟩
theorem EncodingShape.staIzy (zp : Byte) : EncodingShape.Statement (.staIzy zp) :=
  ⟨rfl, fun _ => ⟨Nat.le_of_ble_eq_true rfl, Nat.le_of_ble_eq_true rfl, Nat.le_of_ble_eq_true rfl, rfl⟩⟩
theorem EncodingShape.unsup92 : EncodingShape.Statement .unsup92 :=
  encodingShape_of_skipped (fun _ => rfl) rfl
theorem EncodingShape.unsup93 : EncodingShape.Statement .unsup93 :=
  encodingShape_of_skipped (fun _ => rfl) rfl
theorem EncodingShape.styZpx (zp : Byte) : EncodingShape.Statement (.styZpx zp) :=
  ⟨rfl, fun _ => ⟨Nat.le_of_ble_eq_true rfl, Nat.le_of_ble_eq_true rfl, Nat.le_of_ble_eq_true rfl, rfl⟩⟩
theorem EncodingShape.staZpx (zp : Byte) : EncodingShape.Statement (.staZpx zp) :=
  ⟨rfl, fun _ => ⟨Nat.le_of_ble_eq_true rfl, Nat.le_of_ble_eq_true rfl, Nat.le_of_ble_eq_true rfl, rfl⟩⟩
theorem EncodingShape.stxZpy (zp : Byte) : EncodingShape.Statement (.stxZpy zp) :=
  ⟨rfl, fun _ => ⟨Nat.le_of_ble_eq_true rfl, Nat.le_of_ble_eq_true rfl, Nat.le_of_ble_eq_true rfl, rfl⟩⟩
theorem EncodingShape.unsup97 : EncodingShape.Statement .unsup97 :=
  encodingShape_of_skipped (fun _ => rfl) rfl
theorem EncodingShape.tya : EncodingShape.Statement .tya :=
  ⟨rfl, fun _ => ⟨Nat.le_of_ble_eq_true rfl, Nat.le_of_ble_eq_true rfl, Nat.le_of_ble_eq_true rfl, rfl⟩⟩
theorem EncodingShape.staAby (base : Word) : EncodingShape.Statement (.staAby base) :=
  ⟨rfl, fun _ => ⟨Nat.le_of_ble_eq_true rfl, Nat.le_of_ble_eq_true rfl, Nat.le_of_ble_eq_true rfl, rfl⟩⟩
theorem EncodingShape.txs : EncodingShape.Statement .txs :=
  ⟨rfl, fun _ => ⟨Nat.le_of_ble_eq_true rfl, Nat.le_of_ble_eq_true rfl, Nat.le_of_ble_eq_true rfl, rfl⟩⟩
theorem EncodingShape.unsup9B : EncodingShape.Statement .unsup9B :=
  encodingShape_of_skipped (fun _ => rfl) rfl
theorem EncodingShape.unsup9C : EncodingShape.Statement .unsup9C :=
  encodingShape_of_skipped (fun _ => rfl) rfl
theorem EncodingShape.staAbx (base : Word) : EncodingShape.Statement (.staAbx base) :=
  ⟨rfl, fun _ => ⟨Nat.le_of_ble_eq_true rfl, Nat.le_of_ble_eq_true rfl, Nat.le_of_ble_eq_true rfl, rfl⟩⟩
theorem EncodingShape.unsup9E : EncodingShape.Statement .unsup9E :=
  encodingShape_of_skipped (fun _ => rfl) rfl
theorem EncodingShape.unsup9F : EncodingShape.Statement .unsup9F :=
  encodingShape_of_skipped (fun _ => rfl) rfl
theorem EncodingShape.ldyImm (m : Byte) : EncodingShape.Statement (.ldyImm m) :=
  ⟨rfl, fun _ => ⟨Nat.le_of_ble_eq_true rfl, Nat.le_of_ble_eq_true rfl, Nat.le_of_ble_eq_true rfl, rfl⟩⟩
theorem EncodingShape.ldaIzx (zp : Byte) : EncodingShape.Statement (.ldaIzx zp) :=
  ⟨rfl, fun _ => ⟨Nat.le_of_ble_eq_true rfl, Nat.le_of_ble_eq_true rfl, Nat.le_of_ble_eq_true rfl, rfl⟩⟩
theorem EncodingShape.ldxImm (m : Byte) : EncodingShape.Statement (.ldxImm m) :=
  ⟨rfl, fun _ => ⟨Nat.le_of_ble_eq_true rfl, Nat.le_of_ble_eq_true rfl, Nat.le_of_ble_eq_true rfl, rfl⟩⟩
theorem EncodingShape.unsupA3 : EncodingShape.Statement .unsupA3 :=
  encodingShape_of_skipped (fun _ => rfl) rfl
theorem EncodingShape.ldyZp (zp : Byte) : EncodingShape.Statement (.ldyZp zp) :=
  ⟨rfl, fun _ => ⟨Nat.le_of_ble_eq_true rfl, Nat.le_of_ble_eq_true rfl, Nat.le_of_ble_eq_true rfl, rfl⟩⟩
theorem EncodingShape.ldaZp (zp : Byte) : EncodingShape.Statement (.ldaZp zp) :=
  ⟨rfl, fun _ => ⟨Nat.le_of_ble_eq_true rfl, Nat.le_of_ble_eq_true rfl, Nat.le_of_ble_eq_true rfl, rfl⟩⟩
theorem EncodingShape.ldxZp (zp : Byte) : EncodingShape.Statement (.ldxZp zp) :=
  ⟨rfl, fun _ => ⟨Nat.le_of_ble_eq_true rfl, Nat.le_of_ble_eq_true rfl, Nat.le_of_ble_eq_true rfl, rfl⟩⟩
theorem EncodingShape.unsupA7 : EncodingShape.Statement .unsupA7 :=
  encodingShape_of_skipped (fun _ => rfl) rfl
theorem EncodingShape.tay : EncodingShape.Statement .tay :=
  ⟨rfl, fun _ => ⟨Nat.le_of_ble_eq_true rfl, Nat.le_of_ble_eq_true rfl, Nat.le_of_ble_eq_true rfl, rfl⟩⟩
theorem EncodingShape.ldaImm (m : Byte) : EncodingShape.Statement (.ldaImm m) :=
  ⟨rfl, fun _ => ⟨Nat.le_of_ble_eq_true rfl, Nat.le_of_ble_eq_true rfl, Nat.le_of_ble_eq_true rfl, rfl⟩⟩
theorem EncodingShape.tax : EncodingShape.Statement .tax :=
  ⟨rfl, fun _ => ⟨Nat.le_of_ble_eq_true rfl, Nat.le_of_ble_eq_true rfl, Nat.le_of_ble_eq_true rfl, rfl⟩⟩
theorem EncodingShape.unsupAB : EncodingShape.Statement .unsupAB :=
  encodingShape_of_skipped (fun _ => rfl) rfl
theorem EncodingShape.ldyAbs (addr : Word) : EncodingShape.Statement (.ldyAbs addr) :=
  ⟨rfl, fun _ => ⟨Nat.le_of_ble_eq_true rfl, Nat.le_of_ble_eq_true rfl, Nat.le_of_ble_eq_true rfl, rfl⟩⟩
theorem EncodingShape.ldaAbs (addr : Word) : EncodingShape.Statement (.ldaAbs addr) :=
  ⟨rfl, fun _ => ⟨Nat.le_of_ble_eq_true rfl, Nat.le_of_ble_eq_true rfl, Nat.le_of_ble_eq_true rfl, rfl⟩⟩
theorem EncodingShape.ldxAbs (addr : Word) : EncodingShape.Statement (.ldxAbs addr) :=
  ⟨rfl, fun _ => ⟨Nat.le_of_ble_eq_true rfl, Nat.le_of_ble_eq_true rfl, Nat.le_of_ble_eq_true rfl, rfl⟩⟩
theorem EncodingShape.unsupAF : EncodingShape.Statement .unsupAF :=
  encodingShape_of_skipped (fun _ => rfl) rfl
theorem EncodingShape.bcs (off : Byte) : EncodingShape.Statement (.bcs off) :=
  ⟨rfl, fun _ => ⟨Nat.le_of_ble_eq_true rfl, Nat.le_of_ble_eq_true rfl, Nat.le_of_ble_eq_true rfl, rfl⟩⟩
theorem EncodingShape.ldaIzy (zp : Byte) : EncodingShape.Statement (.ldaIzy zp) :=
  ⟨rfl, fun _ => ⟨Nat.le_of_ble_eq_true rfl, Nat.le_of_ble_eq_true rfl, Nat.le_of_ble_eq_true rfl, rfl⟩⟩
theorem EncodingShape.unsupB2 : EncodingShape.Statement .unsupB2 :=
  encodingShape_of_skipped (fun _ => rfl) rfl
theorem EncodingShape.unsupB3 : EncodingShape.Statement .unsupB3 :=
  encodingShape_of_skipped (fun _ => rfl) rfl
theorem EncodingShape.ldyZpx (zp : Byte) : EncodingShape.Statement (.ldyZpx zp) :=
  ⟨rfl, fun _ => ⟨Nat.le_of_ble_eq_true rfl, Nat.le_of_ble_eq_true rfl, Nat.le_of_ble_eq_true rfl, rfl⟩⟩
theorem EncodingShape.ldaZpx (zp : Byte) : EncodingShape.Statement (.ldaZpx zp) :=
  ⟨rfl, fun _ => ⟨Nat.le_of_ble_eq_true rfl, Nat.le_of_ble_eq_true rfl, Nat.le_of_ble_eq_true rfl, rfl⟩⟩
theorem EncodingShape.ldxZpy (zp : Byte) : EncodingShape.Statement (.ldxZpy zp) :=
  ⟨rfl, fun _ => ⟨Nat.le_of_ble_eq_true rfl, Nat.le_of_ble_eq_true rfl, Nat.le_of_ble_eq_true rfl, rfl⟩⟩
theorem EncodingShape.unsupB7 : EncodingShape.Statement .unsupB7 :=
  encodingShape_of_skipped (fun _ => rfl) rfl
theorem EncodingShape.clv : EncodingShape.Statement .clv :=
  ⟨rfl, fun _ => ⟨Nat.le_of_ble_eq_true rfl, Nat.le_of_ble_eq_true rfl, Nat.le_of_ble_eq_true rfl, rfl⟩⟩
theorem EncodingShape.ldaAby (base : Word) : EncodingShape.Statement (.ldaAby base) :=
  ⟨rfl, fun _ => ⟨Nat.le_of_ble_eq_true rfl, Nat.le_of_ble_eq_true rfl, Nat.le_of_ble_eq_true rfl, rfl⟩⟩
theorem EncodingShape.tsx : EncodingShape.Statement .tsx :=
  ⟨rfl, fun _ => ⟨Nat.le_of_ble_eq_true rfl, Nat.le_of_ble_eq_true rfl, Nat.le_of_ble_eq_true rfl, rfl⟩⟩
theorem EncodingShape.unsupBB : EncodingShape.Statement .unsupBB :=
  encodingShape_of_skipped (fun _ => rfl) rfl
theorem EncodingShape.ldyAbx (base : Word) : EncodingShape.Statement (.ldyAbx base) :=
  ⟨rfl, fun _ => ⟨Nat.le_of_ble_eq_true rfl, Nat.le_of_ble_eq_true rfl, Nat.le_of_ble_eq_true rfl, rfl⟩⟩
theorem EncodingShape.ldaAbx (base : Word) : EncodingShape.Statement (.ldaAbx base) :=
  ⟨rfl, fun _ => ⟨Nat.le_of_ble_eq_true rfl, Nat.le_of_ble_eq_true rfl, Nat.le_of_ble_eq_true rfl, rfl⟩⟩
theorem EncodingShape.ldxAby (base : Word) : EncodingShape.Statement (.ldxAby base) :=
  ⟨rfl, fun _ => ⟨Nat.le_of_ble_eq_true rfl, Nat.le_of_ble_eq_true rfl, Nat.le_of_ble_eq_true rfl, rfl⟩⟩
theorem EncodingShape.unsupBF : EncodingShape.Statement .unsupBF :=
  encodingShape_of_skipped (fun _ => rfl) rfl
theorem EncodingShape.cpyImm (m : Byte) : EncodingShape.Statement (.cpyImm m) :=
  ⟨rfl, fun _ => ⟨Nat.le_of_ble_eq_true rfl, Nat.le_of_ble_eq_true rfl, Nat.le_of_ble_eq_true rfl, rfl⟩⟩
theorem EncodingShape.cmpIzx (zp : Byte) : EncodingShape.Statement (.cmpIzx zp) :=
  ⟨rfl, fun _ => ⟨Nat.le_of_ble_eq_true rfl, Nat.le_of_ble_eq_true rfl, Nat.le_of_ble_eq_true rfl, rfl⟩⟩
theorem EncodingShape.unsupC2 : EncodingShape.Statement .unsupC2 :=
  encodingShape_of_skipped (fun _ => rfl) rfl
theorem EncodingShape.unsupC3 : EncodingShape.Statement .unsupC3 :=
  encodingShape_of_skipped (fun _ => rfl) rfl
theorem EncodingShape.cpyZp (zp : Byte) : EncodingShape.Statement (.cpyZp zp) :=
  ⟨rfl, fun _ => ⟨Nat.le_of_ble_eq_true rfl, Nat.le_of_ble_eq_true rfl, Nat.le_of_ble_eq_true rfl, rfl⟩⟩
theorem EncodingShape.cmpZp (zp : Byte) : EncodingShape.Statement (.cmpZp zp) :=
  ⟨rfl, fun _ => ⟨Nat.le_of_ble_eq_true rfl, Nat.le_of_ble_eq_true rfl, Nat.le_of_ble_eq_true rfl, rfl⟩⟩
theorem EncodingShape.decZp (zp : Byte) : EncodingShape.Statement (.decZp zp) :=
  ⟨rfl, fun _ => ⟨Nat.le_of_ble_eq_true rfl, Nat.le_of_ble_eq_true rfl, Nat.le_of_ble_eq_true rfl, rfl⟩⟩
theorem EncodingShape.unsupC7 : EncodingShape.Statement .unsupC7 :=
  encodingShape_of_skipped (fun _ => rfl) rfl
theorem EncodingShape.iny : EncodingShape.Statement .iny :=
  ⟨rfl, fun _ => ⟨Nat.le_of_ble_eq_true rfl, Nat.le_of_ble_eq_true rfl, Nat.le_of_ble_eq_true rfl, rfl⟩⟩
theorem EncodingShape.cmpImm (m : Byte) : EncodingShape.Statement (.cmpImm m) :=
  ⟨rfl, fun _ => ⟨Nat.le_of_ble_eq_true rfl, Nat.le_of_ble_eq_true rfl, Nat.le_of_ble_eq_true rfl, rfl⟩⟩
theorem EncodingShape.dex : EncodingShape.Statement .dex :=
  ⟨rfl, fun _ => ⟨Nat.le_of_ble_eq_true rfl, Nat.le_of_ble_eq_true rfl, Nat.le_of_ble_eq_true rfl, rfl⟩⟩
theorem EncodingShape.unsupCB : EncodingShape.Statement .unsupCB :=
  encodingShape_of_skipped (fun _ => rfl) rfl
theorem EncodingShape.cpyAbs (addr : Word) : EncodingShape.Statement (.cpyAbs addr) :=
  ⟨rfl, fun _ => ⟨Nat.le_of_ble_eq_true rfl, Nat.le_of_ble_eq_true rfl, Nat.le_of_ble_eq_true rfl, rfl⟩⟩
theorem EncodingShape.cmpAbs (addr : Word) : EncodingShape.Statement (.cmpAbs addr) :=
  ⟨rfl, fun _ => ⟨Nat.le_of_ble_eq_true rfl, Nat.le_of_ble_eq_true rfl, Nat.le_of_ble_eq_true rfl, rfl⟩⟩
theorem EncodingShape.decAbs (addr : Word) : EncodingShape.Statement (.decAbs addr) :=
  ⟨rfl, fun _ => ⟨Nat.le_of_ble_eq_true rfl, Nat.le_of_ble_eq_true rfl, Nat.le_of_ble_eq_true rfl, rfl⟩⟩
theorem EncodingShape.unsupCF : EncodingShape.Statement .unsupCF :=
  encodingShape_of_skipped (fun _ => rfl) rfl
theorem EncodingShape.bne (off : Byte) : EncodingShape.Statement (.bne off) :=
  ⟨rfl, fun _ => ⟨Nat.le_of_ble_eq_true rfl, Nat.le_of_ble_eq_true rfl, Nat.le_of_ble_eq_true rfl, rfl⟩⟩
theorem EncodingShape.cmpIzy (zp : Byte) : EncodingShape.Statement (.cmpIzy zp) :=
  ⟨rfl, fun _ => ⟨Nat.le_of_ble_eq_true rfl, Nat.le_of_ble_eq_true rfl, Nat.le_of_ble_eq_true rfl, rfl⟩⟩
theorem EncodingShape.unsupD2 : EncodingShape.Statement .unsupD2 :=
  encodingShape_of_skipped (fun _ => rfl) rfl
theorem EncodingShape.unsupD3 : EncodingShape.Statement .unsupD3 :=
  encodingShape_of_skipped (fun _ => rfl) rfl
theorem EncodingShape.unsupD4 : EncodingShape.Statement .unsupD4 :=
  encodingShape_of_skipped (fun _ => rfl) rfl
theorem EncodingShape.cmpZpx (zp : Byte) : EncodingShape.Statement (.cmpZpx zp) :=
  ⟨rfl, fun _ => ⟨Nat.le_of_ble_eq_true rfl, Nat.le_of_ble_eq_true rfl, Nat.le_of_ble_eq_true rfl, rfl⟩⟩
theorem EncodingShape.decZpx (zp : Byte) : EncodingShape.Statement (.decZpx zp) :=
  ⟨rfl, fun _ => ⟨Nat.le_of_ble_eq_true rfl, Nat.le_of_ble_eq_true rfl, Nat.le_of_ble_eq_true rfl, rfl⟩⟩
theorem EncodingShape.unsupD7 : EncodingShape.Statement .unsupD7 :=
  encodingShape_of_skipped (fun _ => rfl) rfl
theorem EncodingShape.cld : EncodingShape.Statement .cld :=
  ⟨rfl, fun _ => ⟨Nat.le_of_ble_eq_true rfl, Nat.le_of_ble_eq_true rfl, Nat.le_of_ble_eq_true rfl, rfl⟩⟩
theorem EncodingShape.cmpAby (base : Word) : EncodingShape.Statement (.cmpAby base) :=
  ⟨rfl, fun _ => ⟨Nat.le_of_ble_eq_true rfl, Nat.le_of_ble_eq_true rfl, Nat.le_of_ble_eq_true rfl, rfl⟩⟩
theorem EncodingShape.unsupDA : EncodingShape.Statement .unsupDA :=
  encodingShape_of_skipped (fun _ => rfl) rfl
theorem EncodingShape.unsupDB : EncodingShape.Statement .unsupDB :=
  encodingShape_of_skipped (fun _ => rfl) rfl
theorem EncodingShape.unsupDC : EncodingShape.Statement .unsupDC :=
  encodingShape_of_skipped (fun _ => rfl) rfl
theorem EncodingShape.cmpAbx (base : Word) : EncodingShape.Statement (.cmpAbx base) :=
  ⟨rfl, fun _ => ⟨Nat.le_of_ble_eq_true rfl, Nat.le_of_ble_eq_true rfl, Nat.le_of_ble_eq_true rfl, rfl⟩⟩
theorem EncodingShape.decAbx (base : Word) : EncodingShape.Statement (.decAbx base) :=
  ⟨rfl, fun _ => ⟨Nat.le_of_ble_eq_true rfl, Nat.le_of_ble_eq_true rfl, Nat.le_of_ble_eq_true rfl, rfl⟩⟩
theorem EncodingShape.unsupDF : EncodingShape.Statement .unsupDF :=
  encodingShape_of_skipped (fun _ => rfl) rfl
theorem EncodingShape.cpxImm (m : Byte) : EncodingShape.Statement (.cpxImm m) :=
  ⟨rfl, fun _ => ⟨Nat.le_of_ble_eq_true rfl, Nat.le_of_ble_eq_true rfl, Nat.le_of_ble_eq_true rfl, rfl⟩⟩
theorem EncodingShape.sbcIzx (zp : Byte) : EncodingShape.Statement (.sbcIzx zp) :=
  ⟨rfl, fun _ => ⟨Nat.le_of_ble_eq_true rfl, Nat.le_of_ble_eq_true rfl, Nat.le_of_ble_eq_true rfl, rfl⟩⟩
theorem EncodingShape.unsupE2 : EncodingShape.Statement .unsupE2 :=
  encodingShape_of_skipped (fun _ => rfl) rfl
theorem EncodingShape.unsupE3 : EncodingShape.Statement .unsupE3 :=
  encodingShape_of_skipped (fun _ => rfl) rfl
theorem EncodingShape.cpxZp (zp : Byte) : EncodingShape.Statement (.cpxZp zp) :=
  ⟨rfl, fun _ => ⟨Nat.le_of_ble_eq_true rfl, Nat.le_of_ble_eq_true rfl, Nat.le_of_ble_eq_true rfl, rfl⟩⟩
theorem EncodingShape.sbcZp (zp : Byte) : EncodingShape.Statement (.sbcZp zp) :=
  ⟨rfl, fun _ => ⟨Nat.le_of_ble_eq_true rfl, Nat.le_of_ble_eq_true rfl, Nat.le_of_ble_eq_true rfl, rfl⟩⟩
theorem EncodingShape.incZp (zp : Byte) : EncodingShape.Statement (.incZp zp) :=
  ⟨rfl, fun _ => ⟨Nat.le_of_ble_eq_true rfl, Nat.le_of_ble_eq_true rfl, Nat.le_of_ble_eq_true rfl, rfl⟩⟩
theorem EncodingShape.unsupE7 : EncodingShape.Statement .unsupE7 :=
  encodingShape_of_skipped (fun _ => rfl) rfl
theorem EncodingShape.inx : EncodingShape.Statement .inx :=
  ⟨rfl, fun _ => ⟨Nat.le_of_ble_eq_true rfl, Nat.le_of_ble_eq_true rfl, Nat.le_of_ble_eq_true rfl, rfl⟩⟩
theorem EncodingShape.sbcImm (m : Byte) : EncodingShape.Statement (.sbcImm m) :=
  ⟨rfl, fun _ => ⟨Nat.le_of_ble_eq_true rfl, Nat.le_of_ble_eq_true rfl, Nat.le_of_ble_eq_true rfl, rfl⟩⟩
theorem EncodingShape.nop : EncodingShape.Statement .nop :=
  ⟨rfl, fun _ => ⟨Nat.le_of_ble_eq_true rfl, Nat.le_of_ble_eq_true rfl, Nat.le_of_ble_eq_true rfl, rfl⟩⟩
theorem EncodingShape.unsupEB : EncodingShape.Statement .unsupEB :=
  encodingShape_of_skipped (fun _ => rfl) rfl
theorem EncodingShape.cpxAbs (addr : Word) : EncodingShape.Statement (.cpxAbs addr) :=
  ⟨rfl, fun _ => ⟨Nat.le_of_ble_eq_true rfl, Nat.le_of_ble_eq_true rfl, Nat.le_of_ble_eq_true rfl, rfl⟩⟩
theorem EncodingShape.sbcAbs (addr : Word) : EncodingShape.Statement (.sbcAbs addr) :=
  ⟨rfl, fun _ => ⟨Nat.le_of_ble_eq_true rfl, Nat.le_of_ble_eq_true rfl, Nat.le_of_ble_eq_true rfl, rfl⟩⟩
theorem EncodingShape.incAbs (addr : Word) : EncodingShape.Statement (.incAbs addr) :=
  ⟨rfl, fun _ => ⟨Nat.le_of_ble_eq_true rfl, Nat.le_of_ble_eq_true rfl, Nat.le_of_ble_eq_true rfl, rfl⟩⟩
theorem EncodingShape.unsupEF : EncodingShape.Statement .unsupEF :=
  encodingShape_of_skipped (fun _ => rfl) rfl
theorem EncodingShape.beq (off : Byte) : EncodingShape.Statement (.beq off) :=
  ⟨rfl, fun _ => ⟨Nat.le_of_ble_eq_true rfl, Nat.le_of_ble_eq_true rfl, Nat.le_of_ble_eq_true rfl, rfl⟩⟩
theorem EncodingShape.sbcIzy (zp : Byte) : EncodingShape.Statement (.sbcIzy zp) :=
  ⟨rfl, fun _ => ⟨Nat.le_of_ble_eq_true rfl, Nat.le_of_ble_eq_true rfl, Nat.le_of_ble_eq_true rfl, rfl⟩⟩
theorem EncodingShape.unsupF2 : EncodingShape.Statement .unsupF2 :=
  encodingShape_of_skipped (fun _ => rfl) rfl
theorem EncodingShape.unsupF3 : EncodingShape.Statement .unsupF3 :=
  encodingShape_of_skipped (fun _ => rfl) rfl
theorem EncodingShape.unsupF4 : EncodingShape.Statement .unsupF4 :=
  encodingShape_of_skipped (fun _ => rfl) rfl
theorem EncodingShape.sbcZpx (zp : Byte) : EncodingShape.Statement (.sbcZpx zp) :=
  ⟨rfl, fun _ => ⟨Nat.le_of_ble_eq_true rfl, Nat.le_of_ble_eq_true rfl, Nat.le_of_ble_eq_true rfl, rfl⟩⟩
theorem EncodingShape.incZpx (zp : Byte) : EncodingShape.Statement (.incZpx zp) :=
  ⟨rfl, fun _ => ⟨Nat.le_of_ble_eq_true rfl, Nat.le_of_ble_eq_true rfl, Nat.le_of_ble_eq_true rfl, rfl⟩⟩
theorem EncodingShape.unsupF7 : EncodingShape.Statement .unsupF7 :=
  encodingShape_of_skipped (fun _ => rfl) rfl
theorem EncodingShape.sed : EncodingShape.Statement .sed :=
  ⟨rfl, fun _ => ⟨Nat.le_of_ble_eq_true rfl, Nat.le_of_ble_eq_true rfl, Nat.le_of_ble_eq_true rfl, rfl⟩⟩
theorem EncodingShape.sbcAby (base : Word) : EncodingShape.Statement (.sbcAby base) :=
  ⟨rfl, fun _ => ⟨Nat.le_of_ble_eq_true rfl, Nat.le_of_ble_eq_true rfl, Nat.le_of_ble_eq_true rfl, rfl⟩⟩
theorem EncodingShape.unsupFA : EncodingShape.Statement .unsupFA :=
  encodingShape_of_skipped (fun _ => rfl) rfl
theorem EncodingShape.unsupFB : EncodingShape.Statement .unsupFB :=
  encodingShape_of_skipped (fun _ => rfl) rfl
theorem EncodingShape.unsupFC : EncodingShape.Statement .unsupFC :=
  encodingShape_of_skipped (fun _ => rfl) rfl
theorem EncodingShape.sbcAbx (base : Word) : EncodingShape.Statement (.sbcAbx base) :=
  ⟨rfl, fun _ => ⟨Nat.le_of_ble_eq_true rfl, Nat.le_of_ble_eq_true rfl, Nat.le_of_ble_eq_true rfl, rfl⟩⟩
theorem EncodingShape.incAbx (base : Word) : EncodingShape.Statement (.incAbx base) :=
  ⟨rfl, fun _ => ⟨Nat.le_of_ble_eq_true rfl, Nat.le_of_ble_eq_true rfl, Nat.le_of_ble_eq_true rfl, rfl⟩⟩
theorem EncodingShape.unsupFF : EncodingShape.Statement .unsupFF :=
  encodingShape_of_skipped (fun _ => rfl) rfl

end Sys2Proof.Laws
end

