-- ==== Sys2Proof/Tests/Slice0.lean ====
section
/-! SUPPORT. Tests by evaluation, with expected values from the spec's own vectors (95_test_vectors.md) or worked out by
hand from its rules; and for each statement with hypotheses a witness that meets them. -/

open Sys2Proof Sys2Proof.Machine

namespace Sys2Proof.Tests

/-! ### Well-formedness: each check refuses an ill-formed term -/

theorem test_defaults_well_formed : defaultParams.wellFormed = true := by decide +kernel
theorem test_cycles_refused : Params.wellFormed { defaultParams with unsupCycles := 0 } = false := by decide
theorem test_cycle_table_refused :
    Params.wellFormed { defaultParams with cycles := defaultCycles.set 15 (Vector.replicate 16 0) } = false := by decide
theorem test_status_refused : Params.wellFormed { defaultParams with resetP := 0x34 } = false := by decide
theorem test_window_refused : Params.wellFormed { defaultParams with winBase := 0xFFE1 } = false := by decide
theorem test_small_window_accepted : Params.windowOk { defaultParams with winBase := 0xFFE1, winSize := 31 } = true := by
  decide
theorem test_range_refused : Params.wellFormed { defaultParams with hzMin := .rat 0 } = false := by decide
theorem test_priority_refused : Params.wellFormed { defaultParams with modePriority := [.lp, .lp, .hp] } = false := by
  decide
theorem test_tables_refused :
    Params.wellFormed { defaultParams with attackS := defaultAttackS.set 3 (.rat 0) } = false := by decide +kernel
theorem test_rates_refused : Params.wellFormed { defaultParams with sampleRate := .rat 0 } = false := by decide +kernel
theorem test_vectors_refused : Params.wellFormed { defaultParams with vecSearch := [0x0314] } = false := by decide +kernel
theorem test_instructions_well_formed : Instr.wellFormed (.jmpInd 0xFFFF) = true := rfl

/-! ### Decoding: every opcode byte of 30 R95 with its operand bytes written out -/

/-- The bits decode to the instruction, and its encoding is those bytes. -/
def decodes (row : Nat × Nat × Instr) : Bool :=
  decide (decodeTableWord row.1 row.2.1 = some row.2.2) &&
    decide (encode defaultUnsupLen row.2.2 = (tableBytes row.1 row.2.1).take (row.2.2.length defaultUnsupLen))

theorem test_decode_flags :
    List.all
    [(8, 0x0, .brk), (8, 0x18, .clc), (8, 0x38, .sec), (8, 0x58, .cli), (8, 0x78, .sei), (8, 0xB8, .clv),
     (8, 0xD8, .cld), (8, 0xEA, .nop), (8, 0xF8, .sed)] decodes = true := by
  decide

theorem test_decode_and_ora :
    List.all
    [(16, 0xF401, .oraIzx 0xF4), (16, 0xF405, .oraZp 0xF4), (16, 0xF409, .oraImm 0xF4),
     (24, 0xD4F40D, .oraAbs 0xD4F4), (16, 0xF411, .oraIzy 0xF4), (16, 0xF415, .oraZpx 0xF4),
     (24, 0xD4F419, .oraAby 0xD4F4), (24, 0xD4F41D, .oraAbx 0xD4F4), (16, 0xF421, .andIzx 0xF4),
     (16, 0xF425, .andZp 0xF4), (16, 0xF429, .andImm 0xF4), (24, 0xD4F42D, .andAbs 0xD4F4),
     (16, 0xF431, .andIzy 0xF4), (16, 0xF435, .andZpx 0xF4), (24, 0xD4F439, .andAby 0xD4F4),
     (24, 0xD4F43D, .andAbx 0xD4F4)] decodes = true := by
  decide

theorem test_decode_unsupported_0 :
    List.all
    [(8, 0x2, .unsup02), (8, 0x3, .unsup03), (8, 0x4, .unsup04), (8, 0x7, .unsup07), (8, 0xB, .unsup0B),
     (8, 0xC, .unsup0C), (8, 0xF, .unsup0F), (8, 0x12, .unsup12), (8, 0x13, .unsup13), (8, 0x14, .unsup14),
     (8, 0x17, .unsup17), (8, 0x1A, .unsup1A), (8, 0x1B, .unsup1B), (8, 0x1C, .unsup1C), (8, 0x1F, .unsup1F)] decodes = true := by
  decide

theorem test_decode_asl_lsr :
    List.all
    [(16, 0xF406, .aslZp 0xF4), (8, 0xA, .aslAcc), (24, 0xD4F40E, .aslAbs 0xD4F4), (16, 0xF416, .aslZpx 0xF4),
     (24, 0xD4F41E, .aslAbx 0xD4F4), (16, 0xF446, .lsrZp 0xF4), (8, 0x4A, .lsrAcc), (24, 0xD4F44E, .lsrAbs 0xD4F4),
     (16, 0xF456, .lsrZpx 0xF4), (24, 0xD4F45E, .lsrAbx 0xD4F4)] decodes = true := by
  decide

theorem test_decode_stack :
    List.all
    [(8, 0x8, .php), (8, 0x28, .plp), (8, 0x48, .pha), (8, 0x68, .pla)] decodes = true := by
  decide

theorem test_decode_control :
    List.all
    [(16, 0xF410, .bpl 0xF4), (24, 0xD4F420, .jsr 0xD4F4), (16, 0xF430, .bmi 0xF4), (8, 0x40, .rti),
     (24, 0xD4F44C, .jmpAbs 0xD4F4), (16, 0xF450, .bvc 0xF4), (8, 0x60, .rts), (24, 0xD4F46C, .jmpInd 0xD4F4),
     (16, 0xF470, .bvs 0xF4), (16, 0xF490, .bcc 0xF4), (16, 0xF4B0, .bcs 0xF4), (16, 0xF4D0, .bne 0xF4),
     (16, 0xF4F0, .beq 0xF4)] decodes = true := by
  decide

theorem test_decode_unsupported_1 :
    List.all
    [(8, 0x22, .unsup22), (8, 0x23, .unsup23), (8, 0x27, .unsup27), (8, 0x2B, .unsup2B), (8, 0x2F, .unsup2F),
     (8, 0x32, .unsup32), (8, 0x33, .unsup33), (8, 0x34, .unsup34), (8, 0x37, .unsup37), (8, 0x3A, .unsup3A),
     (8, 0x3B, .unsup3B), (8, 0x3C, .unsup3C), (8, 0x3F, .unsup3F)] decodes = true := by
  decide

theorem test_decode_eor_bit :
    List.all
    [(16, 0xF424, .bitZp 0xF4), (24, 0xD4F42C, .bitAbs 0xD4F4), (16, 0xF441, .eorIzx 0xF4),
     (16, 0xF445, .eorZp 0xF4), (16, 0xF449, .eorImm 0xF4), (24, 0xD4F44D, .eorAbs 0xD4F4),
     (16, 0xF451, .eorIzy 0xF4), (16, 0xF455, .eorZpx 0xF4), (24, 0xD4F459, .eorAby 0xD4F4),
     (24, 0xD4F45D, .eorAbx 0xD4F4)] decodes = true := by
  decide

theorem test_decode_rol_ror :
    List.all
    [(16, 0xF426, .rolZp 0xF4), (8, 0x2A, .rolAcc), (24, 0xD4F42E, .rolAbs 0xD4F4), (16, 0xF436, .rolZpx 0xF4),
     (24, 0xD4F43E, .rolAbx 0xD4F4), (16, 0xF466, .rorZp 0xF4), (8, 0x6A, .rorAcc), (24, 0xD4F46E, .rorAbs 0xD4F4),
     (16, 0xF476, .rorZpx 0xF4), (24, 0xD4F47E, .rorAbx 0xD4F4)] decodes = true := by
  decide

theorem test_decode_unsupported_2 :
    List.all
    [(8, 0x42, .unsup42), (8, 0x43, .unsup43), (8, 0x44, .unsup44), (8, 0x47, .unsup47), (8, 0x4B, .unsup4B),
     (8, 0x4F, .unsup4F), (8, 0x52, .unsup52), (8, 0x53, .unsup53), (8, 0x54, .unsup54), (8, 0x57, .unsup57),
     (8, 0x5A, .unsup5A), (8, 0x5B, .unsup5B), (8, 0x5C, .unsup5C), (8, 0x5F, .unsup5F)] decodes = true := by
  decide

theorem test_decode_sums :
    List.all
    [(16, 0xF461, .adcIzx 0xF4), (16, 0xF465, .adcZp 0xF4), (16, 0xF469, .adcImm 0xF4),
     (24, 0xD4F46D, .adcAbs 0xD4F4), (16, 0xF471, .adcIzy 0xF4), (16, 0xF475, .adcZpx 0xF4),
     (24, 0xD4F479, .adcAby 0xD4F4), (24, 0xD4F47D, .adcAbx 0xD4F4), (16, 0xF4E1, .sbcIzx 0xF4),
     (16, 0xF4E5, .sbcZp 0xF4), (16, 0xF4E9, .sbcImm 0xF4), (24, 0xD4F4ED, .sbcAbs 0xD4F4),
     (16, 0xF4F1, .sbcIzy 0xF4), (16, 0xF4F5, .sbcZpx 0xF4), (24, 0xD4F4F9, .sbcAby 0xD4F4),
     (24, 0xD4F4FD, .sbcAbx 0xD4F4)] decodes = true := by
  decide

theorem test_decode_unsupported_3 :
    List.all
    [(8, 0x62, .unsup62), (8, 0x63, .unsup63), (8, 0x64, .unsup64), (8, 0x67, .unsup67), (8, 0x6B, .unsup6B),
     (8, 0x6F, .unsup6F), (8, 0x72, .unsup72), (8, 0x73, .unsup73), (8, 0x74, .unsup74), (8, 0x77, .unsup77),
     (8, 0x7A, .unsup7A), (8, 0x7B, .unsup7B), (8, 0x7C, .unsup7C), (8, 0x7F, .unsup7F)] decodes = true := by
  decide

theorem test_decode_unsupported_4 :
    List.all
    [(8, 0x80, .unsup80), (8, 0x82, .unsup82), (8, 0x83, .unsup83), (8, 0x87, .unsup87), (8, 0x89, .unsup89),
     (8, 0x8B, .unsup8B), (8, 0x8F, .unsup8F), (8, 0x92, .unsup92), (8, 0x93, .unsup93), (8, 0x97, .unsup97),
     (8, 0x9B, .unsup9B), (8, 0x9C, .unsup9C), (8, 0x9E, .unsup9E), (8, 0x9F, .unsup9F)] decodes = true := by
  decide

theorem test_decode_stores :
    List.all
    [(16, 0xF481, .staIzx 0xF4), (16, 0xF484, .styZp 0xF4), (16, 0xF485, .staZp 0xF4), (16, 0xF486, .stxZp 0xF4),
     (24, 0xD4F48C, .styAbs 0xD4F4), (24, 0xD4F48D, .staAbs 0xD4F4), (24, 0xD4F48E, .stxAbs 0xD4F4),
     (16, 0xF491, .staIzy 0xF4), (16, 0xF494, .styZpx 0xF4), (16, 0xF495, .staZpx 0xF4), (16, 0xF496, .stxZpy 0xF4),
     (24, 0xD4F499, .staAby 0xD4F4), (24, 0xD4F49D, .staAbx 0xD4F4)] decodes = true := by
  decide

theorem test_decode_counts :
    List.all
    [(8, 0x88, .dey), (16, 0xF4C6, .decZp 0xF4), (8, 0xC8, .iny), (8, 0xCA, .dex), (24, 0xD4F4CE, .decAbs 0xD4F4),
     (16, 0xF4D6, .decZpx 0xF4), (24, 0xD4F4DE, .decAbx 0xD4F4), (16, 0xF4E6, .incZp 0xF4), (8, 0xE8, .inx),
     (24, 0xD4F4EE, .incAbs 0xD4F4), (16, 0xF4F6, .incZpx 0xF4), (24, 0xD4F4FE, .incAbx 0xD4F4)] decodes = true := by
  decide

theorem test_decode_transfers :
    List.all
    [(8, 0x8A, .txa), (8, 0x98, .tya), (8, 0x9A, .txs), (8, 0xA8, .tay), (8, 0xAA, .tax), (8, 0xBA, .tsx)] decodes = true := by
  decide

theorem test_decode_loads :
    List.all
    [(16, 0xF4A0, .ldyImm 0xF4), (16, 0xF4A1, .ldaIzx 0xF4), (16, 0xF4A2, .ldxImm 0xF4), (16, 0xF4A4, .ldyZp 0xF4),
     (16, 0xF4A5, .ldaZp 0xF4), (16, 0xF4A6, .ldxZp 0xF4), (16, 0xF4A9, .ldaImm 0xF4),
     (24, 0xD4F4AC, .ldyAbs 0xD4F4), (24, 0xD4F4AD, .ldaAbs 0xD4F4), (24, 0xD4F4AE, .ldxAbs 0xD4F4),
     (16, 0xF4B1, .ldaIzy 0xF4), (16, 0xF4B4, .ldyZpx 0xF4), (16, 0xF4B5, .ldaZpx 0xF4), (16, 0xF4B6, .ldxZpy 0xF4),
     (24, 0xD4F4B9, .ldaAby 0xD4F4), (24, 0xD4F4BC, .ldyAbx 0xD4F4), (24, 0xD4F4BD, .ldaAbx 0xD4F4),
     (24, 0xD4F4BE, .ldxAby 0xD4F4)] decodes = true := by
  decide

theorem test_decode_unsupported_5 :
    List.all
    [(8, 0xA3, .unsupA3), (8, 0xA7, .unsupA7), (8, 0xAB, .unsupAB), (8, 0xAF, .unsupAF), (8, 0xB2, .unsupB2),
     (8, 0xB3, .unsupB3), (8, 0xB7, .unsupB7), (8, 0xBB, .unsupBB), (8, 0xBF, .unsupBF)] decodes = true := by
  decide

theorem test_decode_compares :
    List.all
    [(16, 0xF4C0, .cpyImm 0xF4), (16, 0xF4C1, .cmpIzx 0xF4), (16, 0xF4C4, .cpyZp 0xF4), (16, 0xF4C5, .cmpZp 0xF4),
     (16, 0xF4C9, .cmpImm 0xF4), (24, 0xD4F4CC, .cpyAbs 0xD4F4), (24, 0xD4F4CD, .cmpAbs 0xD4F4),
     (16, 0xF4D1, .cmpIzy 0xF4), (16, 0xF4D5, .cmpZpx 0xF4), (24, 0xD4F4D9, .cmpAby 0xD4F4),
     (24, 0xD4F4DD, .cmpAbx 0xD4F4), (16, 0xF4E0, .cpxImm 0xF4), (16, 0xF4E4, .cpxZp 0xF4),
     (24, 0xD4F4EC, .cpxAbs 0xD4F4)] decodes = true := by
  decide

theorem test_decode_unsupported_6 :
    List.all
    [(8, 0xC2, .unsupC2), (8, 0xC3, .unsupC3), (8, 0xC7, .unsupC7), (8, 0xCB, .unsupCB), (8, 0xCF, .unsupCF),
     (8, 0xD2, .unsupD2), (8, 0xD3, .unsupD3), (8, 0xD4, .unsupD4), (8, 0xD7, .unsupD7), (8, 0xDA, .unsupDA),
     (8, 0xDB, .unsupDB), (8, 0xDC, .unsupDC), (8, 0xDF, .unsupDF)] decodes = true := by
  decide

theorem test_decode_unsupported_7 :
    List.all
    [(8, 0xE2, .unsupE2), (8, 0xE3, .unsupE3), (8, 0xE7, .unsupE7), (8, 0xEB, .unsupEB), (8, 0xEF, .unsupEF),
     (8, 0xF2, .unsupF2), (8, 0xF3, .unsupF3), (8, 0xF4, .unsupF4), (8, 0xF7, .unsupF7), (8, 0xFA, .unsupFA),
     (8, 0xFB, .unsupFB), (8, 0xFC, .unsupFC), (8, 0xFF, .unsupFF)] decodes = true := by
  decide

/-- The operand bytes lie low byte first, and bits above the row's are 0 (30 R92). -/
theorem test_decode_operand_order : decode defaultUnsupLen [0x4C, 0x34, 0x12, 0xEA] = .ok (.jmpAbs 0x1234, [0xEA]) := by decide
theorem test_decode_nothing : decode defaultUnsupLen [] = .error .noBytes := by decide
theorem test_decode_truncated : decode defaultUnsupLen [0x8D, 0x04] = .error (.truncated 0x8D) := by decide
theorem test_decode_unsupported_reads_one : decode defaultUnsupLen [0x0C] = .ok (.unsup0C, []) := by decide

/-- The lengths of R99: none of the 105 rows differs. -/
theorem test_unsupported_lengths :
    unsupportedRows.all (fun row => decide (row.2.length defaultUnsupLen = guessedLength row.1)) = true := by decide

/-! ### One instruction: the vectors of the spec -/

/-- A machine with the processor's registers and memory given. -/
def cpu (a x y sp p : Byte) (pc : Word) (mem : Memory) : State :=
  { State.reset with a := a, x := x, y := y, sp := sp, p := p, pc := pc, mem := mem }

/-- `A`, `X`, `Y`, `SP`, `P`, `PC` and the cycles after the instruction of three bytes. -/
def after (s : State) (b0 b1 b2 : Byte) : Option (List Byte × Word × Nat) :=
  match exec (decode3 b0 b1 b2) s with
  | .next t => some ([t.a, t.x, t.y, t.sp, t.p], t.pc, t.cycles)
  | .fault _ => none
  | .refused _ => none

/-- The memory after the instruction of three bytes. -/
def memAfter (s : State) (b0 b1 b2 : Byte) : Option Memory :=
  match exec (decode3 b0 b1 b2) s with
  | .next t => some t.mem
  | .fault _ => none
  | .refused _ => none

theorem test_v1_lda :
    after (cpu 0x55 0x00 0x00 0xFD 0x24 0x1000 []) 0xA9 0x00 0x00 =
      some ([0x00, 0x00, 0x00, 0xFD, 0x26], 0x1002, 2) := by
  decide

theorem test_v2_lda :
    after (cpu 0x00 0x00 0x00 0xFD 0x26 0x1000 []) 0xA9 0x80 0x00 =
      some ([0x80, 0x00, 0x00, 0xFD, 0xA4], 0x1002, 2) := by
  decide

theorem test_v7_ldx :
    after (cpu 0x00 0x00 0xF8 0xFD 0x24 0x1000 [(0x0008, 0x81)]) 0xB6 0x10 0x00 =
      some ([0x00, 0x81, 0xF8, 0xFD, 0xA4], 0x1002, 4) := by
  decide

theorem test_v8_ldy :
    after (cpu 0x00 0x01 0x00 0xFD 0x24 0x1000 [(0x0000, 0x07)]) 0xBC 0xFF 0xFF =
      some ([0x00, 0x01, 0x07, 0xFD, 0x24], 0x1003, 5) := by
  decide

theorem test_v10_sta :
    after (cpu 0x77 0x05 0x00 0xFD 0xA4 0x1000 []) 0x9D 0x00 0x02 =
      some ([0x77, 0x05, 0x00, 0xFD, 0xA4], 0x1003, 5) := by
  decide
theorem test_v10_sta_stores :
    memAfter (cpu 0x77 0x05 0x00 0xFD 0xA4 0x1000 []) 0x9D 0x00 0x02 = some [(0x0205, 0x77)] := by
  decide

theorem test_v11_sta :
    after (cpu 0x11 0x00 0xFF 0xFD 0x24 0x1000 [(0x0022, 0x01), (0x0023, 0x02)]) 0x91 0x22 0x00 =
      some ([0x11, 0x00, 0xFF, 0xFD, 0x24], 0x1002, 6) := by
  decide

theorem test_v12_stx :
    after (cpu 0x00 0xEE 0x01 0xFD 0x24 0x1000 []) 0x96 0x10 0x00 =
      some ([0x00, 0xEE, 0x01, 0xFD, 0x24], 0x1002, 4) := by
  decide
theorem test_v12_stx_stores :
    memAfter (cpu 0x00 0xEE 0x01 0xFD 0x24 0x1000 []) 0x96 0x10 0x00 = some [(0x0011, 0xEE)] := by
  decide

theorem test_v14_tax :
    after (cpu 0x00 0x09 0x00 0xFD 0x24 0x1000 []) 0xAA 0x00 0x00 =
      some ([0x00, 0x00, 0x00, 0xFD, 0x26], 0x1001, 2) := by
  decide

theorem test_v15_txs :
    after (cpu 0x00 0x80 0x00 0xFD 0x24 0x1000 []) 0x9A 0x00 0x00 =
      some ([0x00, 0x80, 0x00, 0x80, 0x24], 0x1001, 2) := by
  decide

theorem test_v16_tsx :
    after (cpu 0x00 0x00 0x00 0xFD 0x24 0x1000 []) 0xBA 0x00 0x00 =
      some ([0x00, 0xFD, 0x00, 0xFD, 0xA4], 0x1001, 2) := by
  decide

theorem test_v17_tya :
    after (cpu 0x00 0x00 0xFF 0xFD 0x24 0x1000 []) 0x98 0x00 0x00 =
      some ([0xFF, 0x00, 0xFF, 0xFD, 0xA4], 0x1001, 2) := by
  decide

theorem test_v20_pha :
    after (cpu 0xAB 0x00 0x00 0x00 0x24 0x1000 []) 0x48 0x00 0x00 =
      some ([0xAB, 0x00, 0x00, 0xFF, 0x24], 0x1001, 3) := by
  decide
theorem test_v20_pha_stores :
    memAfter (cpu 0xAB 0x00 0x00 0x00 0x24 0x1000 []) 0x48 0x00 0x00 = some [(0x0100, 0xAB)] := by
  decide

theorem test_v21_pla :
    after (cpu 0x00 0x00 0x00 0xFF 0x24 0x1000 [(0x0100, 0x80)]) 0x68 0x00 0x00 =
      some ([0x80, 0x00, 0x00, 0x00, 0xA4], 0x1001, 4) := by
  decide

theorem test_v22_php :
    after (cpu 0x00 0x00 0x00 0xFB 0x24 0x1000 []) 0x08 0x00 0x00 =
      some ([0x00, 0x00, 0x00, 0xFA, 0x24], 0x1001, 3) := by
  decide
theorem test_v22_php_stores :
    memAfter (cpu 0x00 0x00 0x00 0xFB 0x24 0x1000 []) 0x08 0x00 0x00 = some [(0x01FB, 0x34)] := by
  decide

theorem test_v23_plp :
    after (cpu 0x00 0x00 0x00 0xFA 0x24 0x1000 [(0x01FB, 0xFF)]) 0x28 0x00 0x00 =
      some ([0x00, 0x00, 0x00, 0xFB, 0xEF], 0x1001, 4) := by
  decide

theorem test_v24_plp :
    after (cpu 0x00 0x00 0x00 0xFA 0xEF 0x1000 []) 0x28 0x00 0x00 =
      some ([0x00, 0x00, 0x00, 0xFB, 0x20], 0x1001, 4) := by
  decide

theorem test_v30_adc :
    after (cpu 0x50 0x00 0x00 0xFD 0x24 0x1000 []) 0x69 0x50 0x00 =
      some ([0xA0, 0x00, 0x00, 0xFD, 0xE4], 0x1002, 2) := by
  decide

theorem test_v31_adc :
    after (cpu 0xFF 0x00 0x00 0xFD 0x24 0x1000 []) 0x69 0x01 0x00 =
      some ([0x00, 0x00, 0x00, 0xFD, 0x27], 0x1002, 2) := by
  decide

theorem test_v36_sbc :
    after (cpu 0x50 0x00 0x00 0xFD 0x25 0x1000 []) 0xE9 0xF0 0x00 =
      some ([0x60, 0x00, 0x00, 0xFD, 0x24], 0x1002, 2) := by
  decide

theorem test_v37_sbc :
    after (cpu 0x00 0x00 0x00 0xFD 0x25 0x1000 []) 0xE9 0x01 0x00 =
      some ([0xFF, 0x00, 0x00, 0xFD, 0xA4], 0x1002, 2) := by
  decide

theorem test_v41_cmp :
    after (cpu 0x10 0x00 0x00 0xFD 0x24 0x1000 []) 0xC9 0x20 0x00 =
      some ([0x10, 0x00, 0x00, 0xFD, 0xA4], 0x1002, 2) := by
  decide

theorem test_v42_cmp :
    after (cpu 0x80 0x00 0x00 0xFD 0x24 0x1000 []) 0xC9 0x01 0x00 =
      some ([0x80, 0x00, 0x00, 0xFD, 0x25], 0x1002, 2) := by
  decide

theorem test_v44_cpx :
    after (cpu 0x00 0x0A 0x00 0xFD 0x24 0x1000 []) 0xE0 0x0A 0x00 =
      some ([0x00, 0x0A, 0x00, 0xFD, 0x27], 0x1002, 2) := by
  decide

theorem test_v45_cpy :
    after (cpu 0x00 0x00 0x00 0xFD 0x25 0x1000 []) 0xC0 0x01 0x00 =
      some ([0x00, 0x00, 0x00, 0xFD, 0xA4], 0x1002, 2) := by
  decide

theorem test_v46_inc :
    after (cpu 0x00 0x00 0x00 0xFD 0x25 0x1000 [(0x0010, 0xFF)]) 0xE6 0x10 0x00 =
      some ([0x00, 0x00, 0x00, 0xFD, 0x27], 0x1002, 5) := by
  decide
theorem test_v46_inc_stores :
    memAfter (cpu 0x00 0x00 0x00 0xFD 0x25 0x1000 [(0x0010, 0xFF)]) 0xE6 0x10 0x00 = some [] := by
  decide

theorem test_v47_dec :
    after (cpu 0x00 0x00 0x00 0xFD 0x24 0x1000 []) 0xCE 0x00 0x02 =
      some ([0x00, 0x00, 0x00, 0xFD, 0xA4], 0x1003, 6) := by
  decide
theorem test_v47_dec_stores :
    memAfter (cpu 0x00 0x00 0x00 0xFD 0x24 0x1000 []) 0xCE 0x00 0x02 = some [(0x0200, 0xFF)] := by
  decide

theorem test_v48_inc :
    after (cpu 0x00 0x01 0x00 0xFD 0x24 0x1000 [(0x0200, 0x7F)]) 0xFE 0xFF 0x01 =
      some ([0x00, 0x01, 0x00, 0xFD, 0xA4], 0x1003, 7) := by
  decide

theorem test_v49_inx :
    after (cpu 0x00 0xFF 0x00 0xFD 0x24 0x1000 []) 0xE8 0x00 0x00 =
      some ([0x00, 0x00, 0x00, 0xFD, 0x26], 0x1001, 2) := by
  decide

theorem test_v50_dey :
    after (cpu 0x00 0x00 0x00 0xFD 0x26 0x1000 []) 0x88 0x00 0x00 =
      some ([0x00, 0x00, 0xFF, 0xFD, 0xA4], 0x1001, 2) := by
  decide

theorem test_v60_and :
    after (cpu 0xF3 0x00 0x00 0xFD 0x24 0x1000 []) 0x29 0x0F 0x00 =
      some ([0x03, 0x00, 0x00, 0xFD, 0x24], 0x1002, 2) := by
  decide

theorem test_v61_ora :
    after (cpu 0x00 0x00 0x00 0xFD 0x24 0x1000 []) 0x09 0x00 0x00 =
      some ([0x00, 0x00, 0x00, 0xFD, 0x26], 0x1002, 2) := by
  decide

theorem test_v62_eor :
    after (cpu 0x0F 0x00 0x00 0xFD 0x24 0x1000 []) 0x49 0xFF 0x00 =
      some ([0xF0, 0x00, 0x00, 0xFD, 0xA4], 0x1002, 2) := by
  decide

theorem test_v63_bit :
    after (cpu 0x00 0x00 0x00 0xFD 0x24 0x1000 [(0x0010, 0xC0)]) 0x24 0x10 0x00 =
      some ([0x00, 0x00, 0x00, 0xFD, 0xE6], 0x1002, 3) := by
  decide

theorem test_v64_bit :
    after (cpu 0x01 0x00 0x00 0xFD 0xA6 0x1000 [(0x0010, 0x41)]) 0x24 0x10 0x00 =
      some ([0x01, 0x00, 0x00, 0xFD, 0x64], 0x1002, 3) := by
  decide

theorem test_v65_asl :
    after (cpu 0x81 0x00 0x00 0xFD 0x24 0x1000 []) 0x0A 0x00 0x00 =
      some ([0x02, 0x00, 0x00, 0xFD, 0x25], 0x1001, 2) := by
  decide

theorem test_v66_asl :
    after (cpu 0x80 0x00 0x00 0xFD 0x24 0x1000 []) 0x0A 0x00 0x00 =
      some ([0x00, 0x00, 0x00, 0xFD, 0x27], 0x1001, 2) := by
  decide

theorem test_v67_lsr :
    after (cpu 0x01 0x00 0x00 0xFD 0xA4 0x1000 []) 0x4A 0x00 0x00 =
      some ([0x00, 0x00, 0x00, 0xFD, 0x27], 0x1001, 2) := by
  decide

theorem test_v68_rol :
    after (cpu 0x40 0x00 0x00 0xFD 0x25 0x1000 []) 0x2A 0x00 0x00 =
      some ([0x81, 0x00, 0x00, 0xFD, 0xA4], 0x1001, 2) := by
  decide

theorem test_v69_rol :
    after (cpu 0x80 0x00 0x00 0xFD 0x24 0x1000 []) 0x2A 0x00 0x00 =
      some ([0x00, 0x00, 0x00, 0xFD, 0x27], 0x1001, 2) := by
  decide

theorem test_v70_ror :
    after (cpu 0x02 0x00 0x00 0xFD 0x25 0x1000 []) 0x6A 0x00 0x00 =
      some ([0x81, 0x00, 0x00, 0xFD, 0xA4], 0x1001, 2) := by
  decide

theorem test_v71_ror :
    after (cpu 0x00 0x00 0x00 0xFD 0x24 0x1000 [(0x0010, 0x01)]) 0x66 0x10 0x00 =
      some ([0x00, 0x00, 0x00, 0xFD, 0x27], 0x1002, 5) := by
  decide

theorem test_v72_lsr :
    after (cpu 0x00 0xFF 0x00 0xFD 0x24 0x1000 [(0x02FF, 0xFE)]) 0x5E 0x00 0x02 =
      some ([0x00, 0xFF, 0x00, 0xFD, 0x24], 0x1003, 7) := by
  decide

theorem test_v80_bne :
    after (cpu 0x00 0x00 0x00 0xFD 0x24 0x1005 []) 0xD0 0xFB 0x00 =
      some ([0x00, 0x00, 0x00, 0xFD, 0x24], 0x1002, 3) := by
  decide

theorem test_v81_beq :
    after (cpu 0x00 0x00 0x00 0xFD 0x26 0x10FD []) 0xF0 0x10 0x00 =
      some ([0x00, 0x00, 0x00, 0xFD, 0x26], 0x110F, 4) := by
  decide

theorem test_v82_bcs :
    after (cpu 0x00 0x00 0x00 0xFD 0x24 0x1000 []) 0xB0 0x04 0x00 =
      some ([0x00, 0x00, 0x00, 0xFD, 0x24], 0x1002, 2) := by
  decide

theorem test_v83_bmi :
    after (cpu 0x00 0x00 0x00 0xFD 0xA4 0x2000 []) 0x30 0xFE 0x00 =
      some ([0x00, 0x00, 0x00, 0xFD, 0xA4], 0x2000, 3) := by
  decide

theorem test_v84_bvs :
    after (cpu 0x00 0x00 0x00 0xFD 0x64 0x1000 []) 0x70 0x80 0x00 =
      some ([0x00, 0x00, 0x00, 0xFD, 0x64], 0x0F82, 4) := by
  decide

theorem test_v85_bpl :
    after (cpu 0x00 0x00 0x00 0xFD 0x24 0xFFF0 []) 0x10 0x7F 0x00 =
      some ([0x00, 0x00, 0x00, 0xFD, 0x24], 0x0071, 4) := by
  decide

theorem test_v86_bcc :
    after (cpu 0x00 0x00 0x00 0xFD 0x24 0x1000 []) 0x90 0x00 0x00 =
      some ([0x00, 0x00, 0x00, 0xFD, 0x24], 0x1002, 3) := by
  decide

theorem test_v87_bvc :
    after (cpu 0x00 0x00 0x00 0xFD 0x24 0x1000 []) 0x50 0x02 0x00 =
      some ([0x00, 0x00, 0x00, 0xFD, 0x24], 0x1004, 3) := by
  decide

theorem test_v90_jmp :
    after (cpu 0x00 0x00 0x00 0xFD 0x24 0x0800 []) 0x4C 0x00 0x10 =
      some ([0x00, 0x00, 0x00, 0xFD, 0x24], 0x1000, 3) := by
  decide

theorem test_v91_jmp :
    after (cpu 0x00 0x00 0x00 0xFD 0x24 0x0800 [(0x1200, 0x56), (0x12FF, 0x34), (0x1300, 0x78)]) 0x6C 0xFF 0x12 =
      some ([0x00, 0x00, 0x00, 0xFD, 0x24], 0x5634, 5) := by
  decide

theorem test_v92_jsr :
    after (cpu 0x00 0x00 0x00 0xFB 0x24 0x1000 []) 0x20 0x34 0x12 =
      some ([0x00, 0x00, 0x00, 0xF9, 0x24], 0x1234, 6) := by
  decide
theorem test_v92_jsr_stores :
    memAfter (cpu 0x00 0x00 0x00 0xFB 0x24 0x1000 []) 0x20 0x34 0x12 = some [(0x01FA, 0x02), (0x01FB, 0x10)] := by
  decide

theorem test_v93_rts :
    after (cpu 0x00 0x00 0x00 0xF9 0x24 0x1234 [(0x01FA, 0x02), (0x01FB, 0x10)]) 0x60 0x00 0x00 =
      some ([0x00, 0x00, 0x00, 0xFB, 0x24], 0x1003, 6) := by
  decide

theorem test_v94_rts :
    after (cpu 0x00 0x00 0x00 0xFB 0x24 0x1234 [(0x01FC, 0xFE), (0x01FD, 0xFF)]) 0x60 0x00 0x00 =
      some ([0x00, 0x00, 0x00, 0xFD, 0x24], 0xFFFF, 6) := by
  decide

theorem test_v95_rti :
    after (cpu 0x00 0x00 0x00 0xF8 0x24 0x1234 [(0x01F9, 0xA1), (0x01FA, 0x34), (0x01FB, 0x12)]) 0x40 0x00 0x00 =
      some ([0x00, 0x00, 0x00, 0xFB, 0xA1], 0x1234, 6) := by
  decide

theorem test_v96_jsr :
    after (cpu 0x00 0x00 0x00 0x00 0x24 0x1000 []) 0x20 0x00 0x20 =
      some ([0x00, 0x00, 0x00, 0xFE, 0x24], 0x2000, 6) := by
  decide

theorem test_v100_sec :
    after (cpu 0x00 0x00 0x00 0xFD 0x24 0x1000 []) 0x38 0x00 0x00 =
      some ([0x00, 0x00, 0x00, 0xFD, 0x25], 0x1001, 2) := by
  decide

theorem test_v101_cli :
    after (cpu 0x00 0x00 0x00 0xFD 0x24 0x1000 []) 0x58 0x00 0x00 =
      some ([0x00, 0x00, 0x00, 0xFD, 0x20], 0x1001, 2) := by
  decide

theorem test_v102_sed :
    after (cpu 0x00 0x00 0x00 0xFD 0x24 0x1000 []) 0xF8 0x00 0x00 =
      some ([0x00, 0x00, 0x00, 0xFD, 0x2C], 0x1001, 2) := by
  decide

theorem test_v103_clv :
    after (cpu 0x00 0x00 0x00 0xFD 0x64 0x1000 []) 0xB8 0x00 0x00 =
      some ([0x00, 0x00, 0x00, 0xFD, 0x24], 0x1001, 2) := by
  decide

theorem test_v104_nop :
    after (cpu 0x00 0x00 0x00 0xFD 0x24 0x1000 []) 0xEA 0x00 0x00 =
      some ([0x00, 0x00, 0x00, 0xFD, 0x24], 0x1001, 2) := by
  decide

theorem test_v105_brk :
    after (cpu 0x00 0x00 0x00 0xFB 0x24 0x1000 [(0xFFFF, 0x20)]) 0x00 0x00 0x00 =
      some ([0x00, 0x00, 0x00, 0xF8, 0x24], 0x2000, 7) := by
  decide
theorem test_v105_brk_stores :
    memAfter (cpu 0x00 0x00 0x00 0xFB 0x24 0x1000 [(0xFFFF, 0x20)]) 0x00 0x00 0x00 = some [(0x01F9, 0x34), (0x01FA, 0x02), (0x01FB, 0x10), (0xFFFF, 0x20)] := by
  decide

theorem test_v106_brk :
    after (cpu 0x00 0x00 0x00 0xFB 0x29 0x1000 [(0xFFFF, 0x20)]) 0x00 0x00 0x00 =
      some ([0x00, 0x00, 0x00, 0xF8, 0x2D], 0x2000, 7) := by
  decide

theorem test_v110_unsupported_02 :
    after (cpu 0x01 0x00 0x00 0xFD 0x24 0x1000 []) 0x02 0x00 0x00 =
      some ([0x01, 0x00, 0x00, 0xFD, 0x24], 0x1001, 2) := by
  decide

theorem test_v111_unsupported_80 :
    after (cpu 0x00 0x00 0x00 0xFD 0x24 0x1000 [(0x1001, 0xFF)]) 0x80 0x00 0x00 =
      some ([0x00, 0x00, 0x00, 0xFD, 0x24], 0x1002, 2) := by
  decide

theorem test_v113_unsupported_ff :
    after (cpu 0x00 0x00 0x00 0xFD 0x24 0xFFFE []) 0xFF 0x00 0x00 =
      some ([0x00, 0x00, 0x00, 0xFD, 0x24], 0x0001, 2) := by
  decide

theorem test_v114_unsupported_1a :
    after (cpu 0x00 0x00 0x00 0xFD 0x24 0x1000 []) 0x1A 0x00 0x00 =
      some ([0x00, 0x00, 0x00, 0xFD, 0x24], 0x1001, 2) := by
  decide

theorem test_v115_unsupported_ab :
    after (cpu 0x07 0x00 0x00 0xFD 0x24 0x1000 [(0x1001, 0x55)]) 0xAB 0x00 0x00 =
      some ([0x07, 0x00, 0x00, 0xFD, 0x24], 0x1002, 2) := by
  decide

theorem test_v116_unsupported_9b :
    after (cpu 0x00 0x00 0x00 0xFD 0x24 0x1000 [(0x1002, 0x02)]) 0x9B 0x00 0x00 =
      some ([0x00, 0x00, 0x00, 0xFD, 0x24], 0x1003, 2) := by
  decide

/-! The instructions that the spec's vectors leave out, worked out from their rules. -/

theorem test_sty : memAfter (cpu 0 0 0x1F 0xFD 0x24 0x1000 []) 0x8C 0x00 0x02 = some [(0x0200, 0x1F)] := by decide
theorem test_txa :
    after (cpu 0x01 0x80 0 0xFD 0x26 0x1000 []) 0x8A 0 0 = some ([0x80, 0x80, 0x00, 0xFD, 0xA4], 0x1001, 2) := by decide
theorem test_tay :
    after (cpu 0x00 0 0x05 0xFD 0xA4 0x1000 []) 0xA8 0 0 = some ([0x00, 0x00, 0x00, 0xFD, 0x26], 0x1001, 2) := by decide
theorem test_dex_wraps :
    after (cpu 0 0x00 0 0xFD 0x24 0x1000 []) 0xCA 0 0 = some ([0x00, 0xFF, 0x00, 0xFD, 0xA4], 0x1001, 2) := by decide
theorem test_iny_wraps :
    after (cpu 0 0 0xFF 0xFD 0x24 0x1000 []) 0xC8 0 0 = some ([0x00, 0x00, 0x00, 0xFD, 0x26], 0x1001, 2) := by decide
theorem test_clc :
    after (cpu 0 0 0 0xFD 0xEF 0x1000 []) 0x18 0 0 = some ([0x00, 0x00, 0x00, 0xFD, 0xEE], 0x1001, 2) := by decide
theorem test_cld :
    after (cpu 0 0 0 0xFD 0xEF 0x1000 []) 0xD8 0 0 = some ([0x00, 0x00, 0x00, 0xFD, 0xE7], 0x1001, 2) := by decide
theorem test_sei :
    after (cpu 0 0 0 0xFD 0x20 0x1000 []) 0x78 0 0 = some ([0x00, 0x00, 0x00, 0xFD, 0x24], 0x1001, 2) := by decide

/-! ### The parameters of 00 R6 off their defaults -/

/-- `PC` and the cycles after the instruction of one byte, with parameters `p`. -/
def afterWith (p : Params) (b : Byte) : Option (Word × Nat) :=
  match exec (decode3 b 0 0) { cpu 0 0 0 0xFD 0x24 0x1000 [] with params := p } with
  | .next t => some (t.pc, t.cycles)
  | .fault _ => none
  | .refused _ => none

/-- UNSUP_LEN three for the row of 0x02: the skip is three bytes (45 R222). -/
theorem test_unsup_len_replaced :
    afterWith { defaultParams with unsupLen := defaultUnsupLen.set 0 (Vector.replicate 16 .three) } 0x02 =
      some (0x1003, 2) := by decide
/-- CYCLES nine for the row of 0xEA: NOP takes nine (70 R445). -/
theorem test_cycles_replaced :
    afterWith { defaultParams with cycles := defaultCycles.set 14 (Vector.replicate 16 9) } 0xEA = some (0x1001, 9) := by
  decide
/-- SP_GUARD that never holds (49 R338). -/
theorem test_guard_replaced : spGuard { defaultParams with spGuard := .heldBy [] } 0xFD 0xFE = false := by decide
/-- The largest integer that every domain holds, and the one after it, which a domain may round (49 R346; log 34). -/
theorem test_whole_numbers_in_every_domain (num : NumDomain) :
    num.add (.nat 16777214) (.nat 1) = .nat 16777215 ∧ num.sub (.nat 882) (.nat 882) = .nat 0 ∧
      heldExactly 16777216 = false :=
  ⟨numDomain_add_nat num (by decide), numDomain_sub_nat num le_rfl (by decide), rfl⟩

/-- CLOCK_RATIO at any real number: the audible range is tested on the real frequency (46 R242). -/
theorem test_irrational_clock_ratio (f : Word) :
    let p : Params := { defaultParams with clockRatio := .irrational 0 }
    audible p (registerHz p f) = true ↔ 20 ≤ f.toNat * openReals.irrational 0 ∧ f.toNat * openReals.irrational 0 ≤ 20000 := by
  intro p
  have e : (registerHz p f).toReal = f.toNat * openReals.irrational 0 := by
    simp [registerHz, p, defaultParams]
  have lo : p.hzMin.toReal = 20 := by simp [p, defaultParams]
  have hi : p.hzMax.toReal = 20000 := by simp [p, defaultParams]
  rw [audible, Bool.and_eq_true, Number.le_iff, Number.le_iff, e, lo, hi]

/-- The sample rate at any real number: `spf` is the real quotient (49 R345). -/
theorem test_irrational_sample_rate :
    ({ State.reset with params := { defaultParams with sampleRate := .irrational 1 } } : State).samplesPerFrame.toReal =
      openReals.irrational 1 / 50 := by
  have h : ((Number.irrational 1).div (.rat 50)).toReal = (Number.irrational 1).toReal / (Number.rat 50).toReal :=
    Number.toReal_div_of_ne _ (by simp)
  exact h.trans (by simp)

/-! ### Fetching, and the burst loop -/

/-- The byte of `A` after one step. -/
def accAfterStep (s : State) : Option Byte :=
  match step s with
  | .next t => some t.a
  | .fault _ => none
  | .refused _ => none

theorem test_fetch_word_runs : accAfterStep (State.reset.withFetchWord 16 0x80A9) = some 0x80 := by decide

/-- A machine inside an init burst. -/
def inBurst (pc : Word) (spIn sp : Byte) (used budget : Nat) (mem : Memory) : State :=
  { State.reset with
    pc := pc, sp := sp, mem := mem, task := .burst .init spIn used, params := { defaultParams with maxCycles := budget } }

/-- Where the machine stands after one step. -/
def taskAfterStep (s : State) : Option Task :=
  match step s with
  | .next t => some t.task
  | .fault _ => none
  | .refused _ => none

/-- Vector T40: a jump to itself ends the burst. -/
theorem test_t40_stuck :
    taskAfterStep (inBurst 0x1000 0xFD 0xFB 0 100 [(0x1000, 0x4C), (0x1002, 0x10)]) =
      some (.burstDone .init .stuckPC) := by decide
/-- Vector T47: a budget of 0 runs nothing. -/
theorem test_t47_budget :
    taskAfterStep (inBurst 0x1000 0xFD 0xFB 0 0 [(0x1000, 0x60)]) = some (.burstDone .init .budget) := by decide
/-- Vector T43: RTI pops past the burst's own stack pointer. -/
theorem test_t43_drift :
    taskAfterStep (inBurst 0x1000 0xFD 0xFB 0 100 [(0x01FC, 0xFE), (0x01FD, 0xFF), (0x1000, 0x40)]) =
      some (.burstDone .init .stackDrift) := by decide
theorem test_burst_goes_on :
    taskAfterStep (inBurst 0x1000 0xFD 0xFB 7 100 [(0x1000, 0xEA)]) = some (.burst .init 0xFD 9) := by decide

/-! ### The bridge and the engine -/

/-- Vector B2 and example S1: FREQ 0x1000 and the gate bit give note 59. -/
theorem test_b2_note : noteOf (registerHz defaultParams 0x1000) = 59 := by decide +kernel
/-- Vector B7. -/
theorem test_b7_note : noteOf (registerHz defaultParams 0xFFFF) = 107 := by decide +kernel
/-- Vector B5: below HZ_MIN. -/
theorem test_b5_inaudible : audible defaultParams (registerHz defaultParams 0x014F) = false := by decide +kernel

/-- Voice 0 after FREQ 0x1000 and CONTROL 0x21. -/
def gatedVoice : Voice :=
  (((State.reset.memWrite 0xD401 0x10).memWrite 0xD404 0x21).engine.voices.get 0)

theorem test_b2_gate : (gatedVoice.gate, gatedVoice.stage, gatedVoice.wave) = (true, .attack, 2) := by decide +kernel
/-- Vector B13: resonance 15, voices 0 and 2 routed, bit 3 ignored. -/
theorem test_b13_route :
    (State.reset.memWrite 0xD417 0xFD).engine.route = { v0 := true, v1 := false, v2 := true } := by decide
/-- Vector B14: BP before HP, bit 7 ignored. -/
theorem test_b14_mode :
    ((State.reset.memWrite 0xD418 0xEF).engine.mode, (State.reset.memWrite 0xD418 0xEF).engine.volume) = (.bp, 15) := by
  decide
/-- Vector B17: an unnamed offset is a latch, and memory under the window stays. -/
theorem test_b17_latch :
    ((State.reset.memWrite 0xD41F 0x55).memRead 0xD41F, (State.reset.memWrite 0xD41F 0x55).mem) = (0x55, []) := by
  decide
/-- Vector B18: one past the window is memory. -/
theorem test_b18_memory : (State.reset.memWrite 0xD420 0x99).mem = [(0xD420, 0x99)] := by decide

/-- A voice of the noise register's seed reads as `n8` 0xFE (47 R296: bits 22 20 16 13 11 7 4 2 of 0x7FFFF8). -/
theorem test_noise_seed : noise8 lfsrSeed = 0xFE := by decide
/-- One clock of the seed: bits 22 and 17 are both 1, so a 0 comes in (47 R296). -/
theorem test_noise_clock : lfsrClock lfsrSeed = 0x7FFFF0 := by decide
/-- The triangle folds at the half of the period (47 R297). -/
theorem test_triangle : (tri12 false 0x7FF 0, tri12 false 0x800 0, tri12 true 0x000 0x800) = (0xFFE, 0xFFF, 0xFFF) := by decide
/-- The fraction of an exact number with an irrational part: 440 * 2^(1/12) = 466.16 (47 R281). -/
theorem test_floor_tempered : (noteHz 70).floor = 466 := by decide +kernel

/-- A file of 118 header bytes that loads at 0x1000, with three songs of which the second is the default. -/
def header : List Byte :=
  [0x50, 0x53, 0x49, 0x44, 0, 1, 0, 0x76, 0x10, 0x00, 0x10, 0x00, 0x10, 0x20, 0, 3, 0, 2, 0, 0, 0, 2] ++
    List.replicate 96 0x00

/-- The image that follows the header; the payload starts at its data offset (70 R413). -/
theorem test_load_image : parseImage defaultParams (header ++ [0xA9, 0x0F, 0x60]) = some ⟨0x1000, [0xA9, 0x0F, 0x60]⟩ := by decide +kernel
/-- A header cut short by one byte (70 R412, vector L1). -/
theorem test_load_short : parseImage defaultParams (header.take 117) = none := by decide
/-- The default song is stored from 0 (70 R416). -/
theorem test_load_default_song : defaultSongOf 2 3 = 1 := by decide
/-- An image at the top of memory is cut off (70 R415). -/
theorem test_load_top : Memory.ofImage 0xFFFE [1, 2, 3] = [(0xFFFE, 1), (0xFFFF, 2)] := by decide

/-! ### Witnesses: for each statement with hypotheses, inputs that meet them -/

theorem witness_DecodeAndEncodeAgree : Instr.wellFormed (.staAbs 0xD404) = true ∧ unsupportedByte 0xA9 = false := by decide

theorem witness_CycleCountsFollowTable :
    Instr.mnemonic .nop ≠ .unsupported ∧ Instr.mnemonic .unsup02 = .unsupported ∧
      State.reset.params.cyclesOk = true := by
  decide

/-- `used` is at the last value below the budget. -/
theorem witness_StepRunsDecodedInstruction :
    let s := inBurst 0x1000 0xFD 0xFB 99 100 [(0x1000, 0xA9), (0x1001, 0x80)]
    s.task = .burst .init 0xFD 99 ∧ s.pc ≠ s.params.sentinelPC ∧ 99 < s.params.maxCycles ∧
      s.params.dropped.contains (s.memRead s.pc) = false ∧
      decode s.params.unsupLen [s.memRead s.pc, s.memRead (s.pc + 1), s.memRead (s.pc + 2)] = .ok (.ldaImm 0x80, [0x00]) ∧
      Instr.wellFormed (.ldaImm 0x80) = true := by
  decide

/-- An implementation without NOP. -/
def withoutNop : State :=
  { inBurst 0x1000 0xFD 0xFB 99 100 [(0x1000, 0xEA)] with
    params := { defaultParams with maxCycles := 100, dropped := [0xEA] } }

theorem witness_LeftOutOpcodeIsSkipped :
    withoutNop.task = .burst .init 0xFD 99 ∧ withoutNop.pc ≠ withoutNop.params.sentinelPC ∧
      99 < withoutNop.params.maxCycles ∧ withoutNop.params.dropped.contains (withoutNop.memRead withoutNop.pc) = true ∧
      unsupportedByte (withoutNop.memRead withoutNop.pc) = false := by
  decide

theorem witness_BurstLoopEndsInOrder_sentinel :
    let s := inBurst 0xFFFF 0xFD 0xFB 0 0 []
    s.task = .burst .init 0xFD 0 ∧ s.pc = s.params.sentinelPC := by decide

/-- At the first value of `used` that is not below the budget. -/
theorem witness_BurstLoopEndsInOrder_budget :
    let s := inBurst 0x1000 0xFD 0xFB 100 100 []
    s.task = .burst .init 0xFD 100 ∧ s.pc ≠ s.params.sentinelPC ∧ s.params.maxCycles ≤ 100 := by decide

/-- Both ends of the stack guard: 1 and 128 above the entry value end the burst, 0 and 129 do not. -/
theorem witness_BurstLoopEndsInOrder_guard :
    [0xFE, 0x7D, 0xFD, 0x7E].map (fun sp : Byte => ((inBurst 0x1000 0xFD sp 0 100 []).guardBurst .init 0xFD 2 0x0FFF).task) =
      [.burstDone .init .stackDrift, .burstDone .init .stackDrift, .burst .init 0xFD 2, .burst .init 0xFD 2] := by
  decide

/-- The default guard at 1 and 128 above the entry value and at 0 and 129, and a replacement that holds for one pair. -/
theorem witness_BurstLoopEndsInOrder_holds :
    let other : Params := { defaultParams with spGuard := .heldBy [(0xFD, 0xFB)] }
    GuardHolds defaultParams 0xFD 0xFE ∧ GuardHolds defaultParams 0xFD 0x7D ∧ ¬ GuardHolds defaultParams 0xFD 0xFD ∧
      ¬ GuardHolds defaultParams 0xFD 0x7E ∧ GuardHolds other 0xFD 0xFB ∧ ¬ GuardHolds other 0xFD 0xFE := by
  simp [GuardHolds, defaultParams]

/-- The stuck-PC test comes first, and the host can switch it off. -/
theorem witness_BurstLoopEndsInOrder_stuck :
    let s := inBurst 0x1000 0xFD 0xFE 0 100 []
    let off : State := { s with ctl := { resetControls with loopDetectionDisabled := true } }
    ((s.guardBurst .init 0xFD 2 0x1000).task, (off.guardBurst .init 0xFD 2 0x1000).task) =
      (.burstDone .init .stuckPC, .burstDone .init .stackDrift) := by decide

theorem witness_UnsupportedOpcodesComplete : ((0x02, .unsup02) : Byte × Instr) ∈ unsupportedRows := by decide

/-- The first and the last byte of the window. -/
theorem witness_HooksRedirectWindow_inside :
    0 < State.reset.params.winSize ∧ 31 < State.reset.params.winSize ∧
      (0xD400 : Word).toNat = State.reset.params.winBase.toNat + 0 ∧
      (0xD41F : Word).toNat = State.reset.params.winBase.toNat + 31 ∧ State.reset.mem.wf = true ∧
      State.reset.cache.more.wf = true ∧ (0xD401 : Word) ≠ 0xD400 := by decide

/-- In a window of 33 bytes the last one has a shadow byte of its own (log 32), which reads back. -/
theorem witness_HooksRedirectWindow_more :
    let s : State := { State.reset with params := { defaultParams with winSize := 33 } }
    32 < s.params.winSize ∧ (0xD420 : Word).toNat = s.params.winBase.toNat + 32 ∧ s.memRead 0xD420 = 0x00 ∧
      (s.memWrite 0xD420 0x5A).memRead 0xD420 = 0x5A ∧ (s.memWrite 0xD420 0x5A).mem = s.mem ∧
      (s.memWrite 0xD420 0x5A).engine = s.engine := by decide

/-- The bytes just below and just above the window, and in a window of 31 bytes the one that is no longer in it. -/
theorem witness_HooksRedirectWindow_outside :
    (∀ o : Nat, o < State.reset.params.winSize → (0xD3FF : Word).toNat ≠ State.reset.params.winBase.toNat + o) ∧
      (∀ o : Nat, o < State.reset.params.winSize → (0xD420 : Word).toNat ≠ State.reset.params.winBase.toNat + o) ∧
      windowOffset { defaultParams with winSize := 31 } 0xD41F = none := by decide

theorem witness_StackPrimitivesUsePageOne : DefaultMap State.reset.params := ⟨rfl, rfl, rfl⟩

theorem witness_DecimalAndInterruptFlagsAreUnread :
    Instr.mnemonic (.adcImm 0x09) ∉ [Mnemonic.php, .brk, .plp, .rti] ∧
      Instr.mnemonic (.adcImm 0x09) ∉ [Mnemonic.sed, .cld] ∧ Instr.mnemonic (.adcImm 0x09) ∉ [Mnemonic.sei, .cli] ∧
      Instr.mnemonic .sed ∉ [Mnemonic.php, .brk, .plp, .rti] ∧ Instr.mnemonic .sed ∉ [Mnemonic.sei, .cli] := by decide

theorem witness_DecimalAndInterruptFlagsAreUnread_answers :
    ∃ t, exec (.adcImm 0x09) (cpu 0x09 0 0 0xFD 0x2C 0x1000 []) = .next t := ⟨_, rfl⟩

/-- A store beside memory that is read, and a JSR whose two bytes wrap in page one. -/
theorem witness_BytesOutsideStoredAddressesKept :
    storedAt (.staAbs 0x0200) State.reset = [0x0200] ∧ (0x0201 : Word) ∉ storedAt (.staAbs 0x0200) State.reset ∧
      storedAt (.jsr 0x1000) (cpu 0 0 0 0x00 0x24 0x1000 []) = [0x0100, 0x01FF] ∧
      (∀ a ∈ storedAt (.staAbs 0x0200) State.reset, windowOffset State.reset.params a = none ∧ (0x0201 : Nat) ≠ a.toNat) := by
  refine ⟨by decide, by decide, by decide, ?_⟩
  intro a ha
  rw [show a = 0x0200 from List.mem_singleton.mp ha]
  decide

theorem witness_BytesOutsideStoredAddressesKept_answers : ∃ t, exec (.staAbs 0x0200) State.reset = .next t := ⟨_, rfl⟩

theorem witness_OnlyNamedInstructionsWriteRegisters :
    ¬ writesA .inx ∧ ¬ writesX .iny ∧ ¬ writesY .inx ∧ ¬ writesSP .inx ∧ ∃ t, exec .inx State.reset = .next t := by
  refine ⟨?_, ?_, ?_, ?_, _, rfl⟩
  · unfold writesA; decide
  · unfold writesX; decide
  · unfold writesY; decide
  · unfold writesSP; decide

theorem witness_OnlyNamedInstructionsWriteFlags :
    ¬ writesNZ .sec ∧ ¬ writesV .sec ∧ ¬ writesD .sec ∧ ¬ writesI .sec ∧ ¬ writesC .nop ∧
      (∃ t, exec .sec State.reset = .next t) ∧ (∃ t, exec .nop State.reset = .next t) ∧
      ∃ t, exec .plp State.reset = .next t := by
  refine ⟨?_, ?_, ?_, ?_, ?_, ⟨_, rfl⟩, ⟨_, rfl⟩, _, rfl⟩
  · unfold writesNZ; decide
  · unfold writesV; decide
  · unfold writesD; decide
  · unfold writesI; decide
  · unfold writesC; decide

theorem witness_InstructionsKeepHostSideState :
    (∃ t, exec (.staAbs 0xD404) State.reset = .next t) ∧ Instr.mnemonic (.staAbs 0xD404) ≠ .unsupported :=
  ⟨⟨_, rfl⟩, by decide⟩

/-- A state whose memory and status are as every run has them. -/
def ready : State := cpu 0x12 0x34 0x56 0xFD 0xE5 0x1000 [(0xFFFF, 0x20)]

/-- `ready` after BRK. -/
def brkTaken : State := (ready.retire 1 0x00 0).enterBreak (ready.pc + 2)

/-- The handler has changed a register and the program counter before RTI. -/
theorem witness_ReturnsUndoCalls_brk :
    ∃ t w u : State, DefaultMap ready.params ∧ ready.mem.wf = true ∧ StatusOk ready.p ∧ exec .brk ready = .next t ∧
      w ≠ t ∧ w.params = t.params ∧ w.sp = t.sp ∧ (∀ a ∈ storedAt .brk ready, w.memRead a = t.memRead a) ∧
      exec .rti w = .next u := by
  refine ⟨brkTaken, (brkTaken.setPC 0x2345).setA 0x00, _, ⟨rfl, rfl, rfl⟩, by decide, ⟨by decide, by decide⟩, rfl, ?_, rfl, rfl,
    fun _ _ => rfl, rfl⟩
  intro h
  exact absurd (congrArg State.pc h) (by decide)

/-- `ready` after JSR. -/
def jsrTaken : State := ((ready.retire 3 0x20 0).push16 (ready.pc + 2)).setPC 0x2000

theorem witness_ReturnsUndoCalls_jsr :
    ∃ t w u : State, DefaultMap ready.params ∧ ready.mem.wf = true ∧ exec (.jsr 0x2000) ready = .next t ∧ w ≠ t ∧
      w.params = t.params ∧ w.sp = t.sp ∧ (∀ a ∈ storedAt (.jsr 0x2000) ready, w.memRead a = t.memRead a) ∧
      exec .rts w = .next u := by
  refine ⟨jsrTaken, (jsrTaken.setPC 0x2345).setA 0x00, _, ⟨rfl, rfl, rfl⟩, by decide, rfl, ?_, rfl, rfl, fun _ _ => rfl, rfl⟩
  intro h
  exact absurd (congrArg State.pc h) (by decide)

/-- A state inside a burst about to store, and its step. -/
def storing : State := inBurst 0x1000 0xFD 0xFB 0 100 [(0x1000, 0x8D), (0x1001, 0x04), (0x1002, 0xD4)]

theorem witness_EveryStepKeepsMemoryAndStatus : Inv storing ∧ taskAfterStep storing = some (.burst .init 0xFD 4) := by
  refine ⟨⟨by decide, by decide, ⟨by decide, by decide⟩, by decide⟩, by decide⟩

/-- Playing, at the start of the last output frame of a chip frame: `acc + 1 = 882 = spf`. -/
def playingFrame (acc : Nat) (playEff : Word) : State :=
  { State.reset with
    task := .frame 2
    song := { resetSong with loaded := true }
    play := { playing := true, subsong := 0, acc := .nat acc, elapsedMs := .rat 40, timing := .slow, playEff := playEff } }

theorem witness_EveryStepKeepsEngineBounds :
    EngineInv (playingFrame 881 0x1020) ∧ ∃ t, step (playingFrame 881 0x1020) = .next t := by
  refine ⟨⟨rfl, by decide +kernel, (Number.pos_iff _).mp (by decide), (Number.pos_iff _).mp (by decide), ?_,
    (Number.nonneg_iff _).mp (by decide), ?_, (Number.nonneg_iff _).mp (by decide), ?_⟩, _, rfl⟩
  · intro v
    fin_cases v <;> exact ⟨le_of_eq Rat.cast_zero.symm, by norm_num [playingFrame, State.reset, resetEngine, resetVoice,
      PerVoice.all, PerVoice.get]⟩
  all_goals norm_num [playingFrame, State.reset, resetEngine]

/-- The default rates are positive and below the sample rate. -/
theorem test_default_rates : RatesOk defaultParams := by
  refine ⟨(Number.pos_iff _).mp (by decide), (Number.pos_iff _).mp (by decide), ?_, ?_⟩ <;>
    exact (Number.le_iff _ _).mp (by decide)

/-- In any domain where `spf` is 882. -/
theorem test_playing_frame_bounds {s : State} (ha : s.play.acc = .nat 881) (hf : s.samplesPerFrame = .nat 882) :
    0 ≤ s.play.acc.toReal ∧ s.play.acc.toReal < s.samplesPerFrame.toReal := by
  rw [ha, hf, Number.toReal_nat, Number.toReal_nat]
  norm_num

theorem witness_EveryStepKeepsAccumulatorBounds :
    AccInv (playingFrame 881 0x1020) ∧ ∃ t, step (playingFrame 881 0x1020) = .next t :=
  have h := test_playing_frame_bounds (s := playingFrame 881 0x1020) rfl (by decide +kernel)
  ⟨⟨.inl rfl, test_default_rates, h.1, h.2, fun h => absurd h (by decide), fun h => absurd rfl h⟩, _, rfl⟩

/-- The defaults in a rounding domain: `spf` is 882 and 735, integers below 2^24 (49 R346). -/
def roundingParams : Params := { defaultParams with num := .rounding 7 }

theorem test_rounding_counts_exactly : CountsExactly roundingParams := by
  refine .inr fun rate hr => ?_
  rcases List.mem_pair.mp hr with rfl | rfl
  · exact ⟨882, by decide, by norm_num [roundingParams, defaultParams, defaultSampleRate], by decide +kernel⟩
  · exact ⟨735, by decide, by norm_num [roundingParams, defaultParams, defaultSampleRate], by decide +kernel⟩

theorem witness_EveryStepKeepsAccumulatorBounds_rounding :
    AccInv { playingFrame 881 0x1020 with params := roundingParams } :=
  have h := test_playing_frame_bounds (s := { playingFrame 881 0x1020 with params := roundingParams }) rfl
    (by decide +kernel)
  ⟨test_rounding_counts_exactly, test_default_rates, h.1, h.2, fun h => absurd h (by decide), fun _ => ⟨881, rfl⟩⟩

theorem witness_OutputFramesAreAllAccountedFor :
    (playingFrame 881 0x1020).params.num = .exact ∧ 0 < (playingFrame 881 0x1020).params.frameRateSlow.toReal ∧
      0 < (playingFrame 881 0x1020).params.frameRateFast.toReal ∧ 0 < (playingFrame 881 0x1020).params.sampleRate.toReal ∧
      (playingFrame 881 0x1020).play.playing = true ∧ inProcess (playingFrame 881 0x1020).task = true ∧
      ∃ t, step (playingFrame 881 0x1020) = .next t :=
  ⟨rfl, (Number.pos_iff _).mp (by decide), (Number.pos_iff _).mp (by decide), (Number.pos_iff _).mp (by decide), rfl, rfl,
    _, rfl⟩

/-- Before and at a chip frame, with and without a play routine: both clauses at the accumulator's boundary. -/
theorem witness_OutputFramesAreAllAccountedFor_frame :
    (playingFrame 880 0).play.acc.toReal + 1 < (playingFrame 880 0).samplesPerFrame.toReal ∧
      (playingFrame 881 0).samplesPerFrame.toReal ≤ (playingFrame 881 0).play.acc.toReal + 1 ∧
      (playingFrame 881 0).task = .frame 2 ∧ (playingFrame 881 0).play.playEff = 0 ∧
      (playingFrame 881 0x1020).play.playEff ≠ 0 := by
  have h : (playingFrame 880 0).samplesPerFrame = .nat 882 := by decide +kernel
  have h' : (playingFrame 881 0).samplesPerFrame = .nat 882 := by decide +kernel
  refine ⟨?_, ?_, rfl, rfl, by decide⟩
  · rw [h]
    norm_num [playingFrame]
  · rw [h']
    norm_num [playingFrame]

theorem witness_EveryInstructionAndStepAnswers : 0 < State.reset.params.sampleRate.toReal :=
  (Number.pos_iff _).mp (by decide)

theorem witness_BurstEndsWithinBudget : storing.task = .burst .init 0xFD 0 ∧ storing.params.cyclesOk = true := by decide

theorem witness_StartEntersInitRoutine :
    State.reset.song.loaded = false ∧ (playingFrame 0 0).song.loaded = true ∧ 0 < (playingFrame 0 0).params.sampleRate.toReal ∧
      (playingFrame 0 0).play.playing = true ∧ (playingFrame 0 0).stopPlayback.song.loaded = true ∧
      0 < (playingFrame 0 0).stopPlayback.params.sampleRate.toReal ∧ (playingFrame 0 0).stopPlayback.play.playing = false ∧
      DefaultMap (playingFrame 0 0).stopPlayback.params :=
  ⟨rfl, rfl, (Number.pos_iff _).mp (by decide), rfl, rfl, (Number.pos_iff _).mp (by decide), rfl, rfl, rfl, rfl⟩

/-- The init burst over, with a program at 0x1000 to 0x10FF and a word at the first vector. -/
def initDone (playAddr : Word) (mem : Memory) : State :=
  { State.reset with
    task := .burstDone .init .returned
    mem := mem
    song := { resetSong with loaded := true, loadAddr := 0x1000, loadEnd := 0x1100, playAddr := playAddr } }

theorem witness_InitBurstEndAdoptsPlayAddress :
    (initDone 0 []).task = .burstDone .init .returned ∧ (initDone 0 []).params.vecSearch = [0x0314, 0xFFFE] := ⟨rfl, rfl⟩

/-- The header's play address, the last byte of the program by either vector, one past it, and no vector. -/
theorem witness_InitBurstEndAdoptsPlayAddress_cases :
    [initDone 0x3000 [], initDone 0 [(0x0314, 0xFF), (0x0315, 0x10)], initDone 0 [(0xFFFF, 0x10)],
        initDone 0 [(0x0315, 0x11)], initDone 0 []].map (fun s => s.finishStart.play.playEff) =
      [0x3000, 0x10FF, 0x1000, 0, 0] := by decide

/-- The mask's last bit stands for every later song (49 R333). -/
theorem witness_TimingFollowsSpeedMask :
    (0x80000000 : BitVec 32) ≠ 0 ∧
      [30, 31, 32, 1000].map (timingOf defaultParams 0x80000000) = [.slow, .fast, .fast, .fast] ∧
      timingOf defaultParams 0 31 = .slow := by decide

/-- Not playing; one frame before a chip frame; at a chip frame without and with a play routine; a play burst done. -/
theorem witness_OutputFrameBeginsAsStated :
    let num := (playingFrame 880 0).params.num
    (playingFrame 880 0).task = .frame 2 ∧ (playingFrame 880 0).stopPlayback.play.playing = false ∧
      (playingFrame 880 0).play.playing = true ∧
      (num.add (playingFrame 880 0).play.acc (.rat 1)).toReal <
        (num.div (playingFrame 880 0).params.sampleRate (playingFrame 880 0).frameRate).toReal ∧
      (num.div (playingFrame 881 0).params.sampleRate (playingFrame 881 0).frameRate).toReal ≤
        (num.add (playingFrame 881 0).play.acc (.rat 1)).toReal ∧
      (playingFrame 881 0).play.playEff = 0 ∧ (playingFrame 881 0x1020).play.playEff ≠ 0 ∧
      (playingFrame 881 0x1020).params.stackPage = 0x0100 ∧ (playingFrame 881 0x1020).params.winBase = 0xD400 ∧
      (playingFrame 881 0x1020).params.winSize = 32 ∧
      ({ playingFrame 0 0x1020 with task := .burstDone (.play 2) .budget } : State).task = .burstDone (.play 2) .budget :=
  ⟨rfl, rfl, rfl, (Number.lt_iff _ _).mp (by decide +kernel), (Number.le_iff _ _).mp (by decide +kernel), rfl, by decide,
    rfl, rfl, rfl, rfl⟩

theorem witness_OutputFrameEndsWithOneSample : ({ State.reset with task := .sample 1 } : State).task = .sample 1 := rfl

/-- Three songs: the last is accepted, the one after it is not. -/
def threeSongs (playing : Bool) : State :=
  { State.reset with
    song := { resetSong with loaded := true, songs := 3 }
    play := { resetPlay with playing := playing } }

theorem witness_SelectSubsongTakesEffect :
    max (threeSongs false).song.songs.toNat 1 ≤ 3 ∧ (threeSongs false).song.loaded = true ∧
      2 < max (threeSongs false).song.songs.toNat 1 ∧ (threeSongs false).play.playing = false ∧
      (threeSongs true).play.playing = true ∧ 0 < (threeSongs true).params.sampleRate.toReal :=
  ⟨by decide, rfl, by decide, rfl, rfl, (Number.pos_iff _).mp (by decide)⟩

/-- 117 bytes are too few, 118 are enough (an empty image), and a load address of 0 asks for two bytes more. -/
theorem witness_LoadFailsOnlyOnBadFiles :
    [header.take 117, header, (header.set 8 0).set 9 0 ++ [0x00], (header.set 8 0).set 9 0 ++ [0x00, 0x10],
        header.set 0 0x58].map (fun f => (State.reset.callLoad f).loadResult) =
      [some false, some true, some false, some true, some false] := by decide +kernel

/-- With HEADER_SIZE 4 the magic alone is accepted, and a field beyond the file's end reads free bytes (log 30). -/
theorem test_field_beyond_file_is_free :
    let p : Params := { defaultParams with headerSize := 4 }
    ([0x50, 0x53, 0x49, 0x44] : List Byte).length = p.headerSize ∧
      be16 [0x50, 0x53, 0x49, 0x44] 0x0A = wordOf (Config.missingByte 0x0A) (Config.missingByte 0x0B) := ⟨rfl, rfl⟩

/-- A frame rate of 0 gives an open number of samples per frame (log 31). -/
theorem test_frame_rate_zero_is_free :
    ({ State.reset with params := { defaultParams with frameRateSlow := .rat 0 } } : State).samplesPerFrame.toReal =
      openReals.quotientByZero 44100 := by
  have h := Number.toReal_div (.rat 44100) (.rat 0)
  rw [if_pos (by simp)] at h
  exact h.trans (by simp)

/-- A file with its load address in the header, and one with it in the payload's first two bytes, the fewest it may have. -/
theorem witness_LoadCopiesImage :
    let plain := header ++ [0xA9, 0x00, 0x60]
    let embedded := (header.set 8 0).set 9 0 ++ [0x00, 0x10]
    State.reset.params.headerSize ≤ plain.length ∧ plain.take 4 = [0x50, 0x53, 0x49, 0x44] ∧
      wordOf (plain.getD 8 0) (plain.getD 9 0) = 0x1000 ∧ State.reset.params.headerSize ≤ embedded.length ∧
      embedded.take 4 = [0x50, 0x53, 0x49, 0x44] ∧ wordOf (embedded.getD 8 0) (embedded.getD 9 0) = 0 ∧
      wordOf (embedded.getD 6 0) (embedded.getD 7 0) = 118 ∧ 118 + 2 ≤ embedded.length := by
  decide +kernel

/-- Nothing queued, a call queued, and both kinds of sample rate. -/
theorem witness_HostCallsBeginFromQueue :
    State.reset.task = .idle ∧ State.reset.calls = [] ∧ ({ State.reset with calls := [.stop] } : State).calls = [.stop] ∧
      0 < State.reset.params.sampleRate.toReal ∧
      ¬ 0 < ({ State.reset with params := { defaultParams with sampleRate := .rat 0 } } : State).params.sampleRate.toReal :=
  ⟨rfl, rfl, rfl, (Number.pos_iff _).mp (by decide), fun h => absurd ((Number.pos_iff _).mpr h) (by decide)⟩

/-- The first and last latches of the voices, the unnamed ends. -/
theorem witness_LatchWritesCallNothing :
    [(0xD400 : Word), 0xD403, 0xD411, 0xD419, 0xD41F].map (fun a => windowOffset State.reset.params a) =
        [some 0, some 3, some 17, some 25, some 31] ∧
      [0, 3, 17, 25, 31].all (fun n => decide ((n ≤ 20 ∧ n % 7 ≤ 3) ∨ 25 ≤ n)) = true := by decide

/-- CONTROL of the first and of the last voice. -/
theorem witness_ControlWriteDecodes :
    windowOffset State.reset.params 0xD404 = some (4 : Fin 32).val ∧ (4 : Fin 32).val = 7 * (0 : VoiceId).val + 4 ∧
      windowOffset State.reset.params 0xD412 = some (18 : Fin 32).val ∧ (18 : Fin 32).val = 7 * (2 : VoiceId).val + 4 := by decide

/-- The four cases of the gate, with PITCH_TRACK on for the held one. -/
theorem witness_ControlWriteDecodes_gate :
    let s : State := { State.reset with params := { defaultParams with pitchTrack := true } }
    let on := (s.memWrite 0xD401 0x10).memWrite 0xD404 0x21
    [((s.memWrite 0xD404 0x20).engine.voices.get 0).stage, (on.engine.voices.get 0).stage,
        ((on.memWrite 0xD404 0x20).engine.voices.get 0).stage] = [.idle, .attack, .release] ∧
      (((on.memWrite 0xD401 0x20).memWrite 0xD404 0x21).engine.voices.get 0).ratio = .rat 2 := by decide +kernel

theorem witness_ParameterWritesDecode :
    [(0xD405 : Word), 0xD413, 0xD406, 0xD414, 0xD415, 0xD416, 0xD417, 0xD418].map (windowOffset State.reset.params) =
        [some 5, some 19, some 6, some 20, some 0x15, some 0x16, some 0x17, some 0x18] ∧
      State.reset.params.modePriority = [.lp, .bp, .hp] := by decide

theorem witness_NoteIsNearestTemperedNote :
    0 < (Number.rat (1 / 1000000)).toReal ∧ noteIn .exact (.rat (1 / 1000000)) = 0 ∧ noteIn .exact (.rat 1000000) = 127 :=
  ⟨(Number.pos_iff _).mp (by decide +kernel), by decide +kernel, by decide +kernel⟩

/-- The floor of an irrational frequency is computed, and a divisor other than 0. -/
theorem witness_FrequenciesAndPhasesAreReals : (noteHz 70).floor = 466 ∧ (Number.rat 44100).toReal ≠ 0 :=
  ⟨by decide +kernel, by simp⟩

/-- A voice at full level with the shortest release, six milliseconds: 265 samples at 44100 Hz. -/
def loud : Engine :=
  { resetEngine (.rat 44100) with
    voices := PerVoice.all { resetVoice with stage := .sustain, level := .rat 1, sus := 15, gate := true } }

theorem witness_ReleaseReachesIdle :
    defaultParams.num = .exact ∧ defaultParams.tablesOk = true ∧ 0 < loud.fs.toReal ∧ 0 ≤ (loud.voices.get 0).level.toReal ∧
      (loud.voices.get 0).level.toReal ≤ 1 ∧ 1 ≤ 265 ∧
      (nibbleEntry defaultParams.decRelS (loud.voices.get 0).rel).toReal * loud.fs.toReal ≤ ((265 : Nat) : ℝ) := by
  have h : nibbleEntry defaultParams.decRelS (loud.voices.get 0).rel = .rat (6 / 1000) := by decide +kernel
  refine ⟨rfl, by decide +kernel, (Number.pos_iff _).mp (by decide), (Number.nonneg_iff _).mp (by decide), ?_, by decide, ?_⟩
  · norm_num [loud, PerVoice.all, PerVoice.get]
  · rw [h]
    norm_num [loud, resetEngine]

/-- Before the sample a voice at level 0 makes no sound; with no waveform it makes none at level 1. -/
theorem witness_SilenceProperties :
    (resetEngine (.rat 44100)).volume = 0 ∧ IsFilterZero defaultParams.num (resetEngine (.rat 44100)).low ∧
      IsFilterZero defaultParams.num (resetEngine (.rat 44100)).band ∧
      Silent defaultParams.num (PerVoice.all false)
        ((resetEngine (.rat 44100)).processOneSample defaultParams (PerVoice.all false)).engine ∧
      Silent defaultParams.num (PerVoice.all false) (loud.processOneSample defaultParams (PerVoice.all false)).engine := by
  refine ⟨rfl, FilterReal.toReal_zero, FilterReal.toReal_zero, ?_, ?_⟩
  · intro v
    fin_cases v <;> exact Or.inl Rat.cast_zero
  · intro v
    fin_cases v <;> exact Or.inr (Or.inl (by decide))

/-- A binary32 host buffer holds a frame of silence as it is (48 R325). -/
theorem test_silence_in_binary32 : HoldsBinary32 [FilterReal.zero, FilterReal.zero] [0, 0] := by
  have h : NearestBinary32 FilterReal.zero.toReal 0 := by
    refine nearestBinary32_self ⟨0, 0, ?_⟩ ?_ <;> norm_num
  exact .cons h (.cons h .nil)

/-- An input at rest. -/
def atRest : FilterIn FilterReal Number :=
  { low := FilterReal.zero, band := FilterReal.zero, cutoff := .rat 1, res := .rat 0, mode := .off, fs := .rat 44100,
    x := .rat 0 }

/-- The defaults and a replacement, and the input at rest. -/
theorem witness_FilterStepOverReals :
    defaultParams.filter = .stateVariable ∧ defaultParams.num = .exact ∧ atRest.fs.toReal ≠ 0 ∧
      ({ defaultParams with filter := .replacement 3 } : Params).filter = .replacement 3 ∧
      IsZero defaultParams.num atRest.x ∧ IsFilterZero defaultParams.num atRest.low ∧
      IsFilterZero defaultParams.num atRest.band ∧ atRest.mode = .off :=
  ⟨rfl, rfl, by simp [atRest], rfl, Rat.cast_zero, FilterReal.toReal_zero, FilterReal.toReal_zero, rfl⟩

theorem witness_SampleAdvancesOscillators :
    defaultParams.num = .exact ∧ 0 < (resetEngine (.rat 44100)).fs.toReal ∧
      ((resetEngine (.rat 44100)).voices.get 0).test = false ∧
      (((resetEngine (.rat 44100)).setTest 0 true).voices.get 0).test = true :=
  ⟨rfl, (Number.pos_iff _).mp (by decide), rfl, rfl⟩

/-- An engine at 1000 Hz whose voices are in stage `stage` at level `level`: the shortest attack rises 1/2 a sample and
the shortest decay falls 1/6. -/
def inStage (stage : Stage) (level : Rat) (sus : BitVec 4) : Engine :=
  { resetEngine (.rat 1000) with voices := PerVoice.all { resetVoice with stage := stage, level := .rat level, sus := sus } }

/-- Level and stage of voice 0 after one sample. -/
def envelopeAfter (e : Engine) : Option Rat × Stage :=
  let w := (e.processOneSample defaultParams (PerVoice.all false)).engine.voices.get 0
  (w.level.rational, w.stage)

/-- Each clause of 47 R291: Idle; Attack below 1 and at 1; Decay above, at and below the sustain level 3/15; Sustain above
and below it; Release above 0 and at 0. -/
theorem witness_EnvelopeStepsAsStated :
    defaultParams.num = .exact ∧ defaultParams.tablesOk = true ∧ 0 < (inStage .attack 0 0).fs.toReal ∧
      [inStage .idle 1 0, inStage .attack 0 0, inStage .attack (1 / 2) 0, inStage .decay 1 3, inStage .decay (1 / 4) 3,
          inStage .decay (1 / 10) 3, inStage .sustain (1 / 2) 3, inStage .sustain (1 / 10) 3, inStage .release (1 / 2) 0,
          inStage .release (1 / 6) 0].map envelopeAfter =
        [(some 0, .idle), (some (1 / 2), .attack), (some 1, .decay), (some (5 / 6), .decay), (some (1 / 5), .sustain),
          (some (1 / 10), .sustain), (some (1 / 3), .sustain), (some (1 / 10), .sustain), (some (1 / 3), .release),
          (some 0, .idle)] :=
  ⟨rfl, by decide +kernel, (Number.pos_iff _).mp (by decide), by decide +kernel⟩

/-- The three contributions at the first and last phase index and at the fold (47 R297), and their bitwise or. -/
theorem witness_VoiceOutputAndMix :
    defaultParams.num = .exact ∧
      [0, 2047, 2048, 4095].map (fun q => triangleNumber false q 0) = [0, 4094, 4095, 1] ∧
      [0, 2048].map (fun q => triangleNumber true q 2048) = [4095, 0] ∧
      [7, 8].map (fun q => waveNumber { resetVoice with wave := 4, pw := 8 } q 0) = [0, 4095] ∧
      waveNumber { resetVoice with wave := 3 } 0x801 0 = 0xFFD ||| 0x801 ∧
      waveNumber { resetVoice with wave := 15 } 0 0 = 16 * 0xFE := by
  refine ⟨rfl, ?_, ?_, ?_, ?_, ?_⟩ <;> decide

end Sys2Proof.Tests
end

section
/-! The hooks (20 R61 to R63), the values at construction (10 R42) and the host's queue of calls (49 R331). -/

namespace Sys2Proof.Machine

/-! ### The hooks at an address in the window and outside it -/

theorem State.memRead_of_offset {s : State} {a : Word} {o : Nat} (h : windowOffset s.params a = some o) :
    s.memRead a = s.cache.shadowByte o := by
  unfold State.memRead
  rw [h]

theorem State.memRead_of_outside {s : State} {a : Word} (h : windowOffset s.params a = none) :
    s.memRead a = s.mem.read a.toNat := by
  unfold State.memRead
  rw [h]

theorem State.memWrite_of_offset {s : State} {a : Word} {o : Nat} (h : windowOffset s.params a = some o) (v : Byte) :
    s.memWrite a v =
      { s with cache := bridgeCache o v s.cache, engine := bridgeEngine s.params o v s.cache s.engine } := by
  unfold State.memWrite
  rw [h]

theorem State.memWrite_of_outside {s : State} {a : Word} (h : windowOffset s.params a = none) (v : Byte) :
    s.memWrite a v = { s with mem := s.mem.write a.toNat v } := by
  unfold State.memWrite
  rw [h]

theorem RegisterCache.shadowByte_of_lt (c : RegisterCache) {o : Nat} (h : o < 32) : c.shadowByte o = c.shadow[o] :=
  dif_pos h

theorem RegisterCache.shadowByte_of_le (c : RegisterCache) {o : Nat} (h : 32 ≤ o) : c.shadowByte o = c.more.read o :=
  dif_neg (Nat.not_lt.mpr h)

/-- Settles O22, by the window offset of the address or its absence. -/
theorem hooksRedirectWindow : Obligations.HooksRedirectWindow := by
  intro s a v
  refine ⟨fun o ho ha => ?_, fun hout => ?_, fun hmem hmore => ?_, fun b hb => s.memRead_memWrite_of_ne v hb⟩
  · have hoff : windowOffset s.params a = some o := windowOffset_eq_some.mpr ⟨ho, ha⟩
    rw [State.memWrite_of_offset hoff, State.memRead_of_offset hoff]
    refine ⟨rfl, fun h => ?_, fun h => ?_⟩
    · have hset : s.cache.setShadow o v = { s.cache with shadow := s.cache.shadow.set o v } := dif_pos h
      refine ⟨s.cache.shadowByte_of_lt h, ?_, ?_⟩
      · rw [bridgeCache_shadow, hset]
      · rw [bridgeCache_more, hset]
    · obtain ⟨hcache, hengine⟩ := bridge_of_le s.params h v s.cache s.engine
      rw [hcache, hengine]
      exact ⟨s.cache.shadowByte_of_le h, rfl⟩
  · have hoff : windowOffset s.params a = none := windowOffset_eq_none.mpr hout
    exact ⟨State.memRead_of_outside hoff, State.memWrite_of_outside hoff v⟩
  · exact ⟨s.memRead_memWrite_self a v hmem hmore, s.memWrite_wf a v hmem, s.memWrite_more_wf a v hmore⟩

/-! ### Construction -/

@[simp] theorem PerVoice.get_all {α : Type} (x : α) (v : VoiceId) : (PerVoice.all x).get v = x := by
  fin_cases v <;> rfl

theorem resetCache_shadowByte (o : Nat) : resetCache.shadowByte o = 0x00 := by
  by_cases h : o < 32
  · rw [RegisterCache.shadowByte_of_lt _ h]
    exact Vector.getElem_replicate h
  · exact RegisterCache.shadowByte_of_le _ (Nat.not_lt.mp h)

/-- Every byte that a hook reads at construction is 0x00. -/
theorem reset_memRead (a : Word) : State.reset.memRead a = 0x00 := by
  cases h : windowOffset State.reset.params a with
  | none => rw [State.memRead_of_outside h]; rfl
  | some o => rw [State.memRead_of_offset h]; exact resetCache_shadowByte o

/-- Settles O32: the bytes and the voices by their uniform values, CLOCK_RATIO by its lowest terms. -/
theorem constructionValues : Obligations.ConstructionValues := by
  have hratio : (596 / 10000 : Rat) = 149 / 2500 := by norm_num
  have hbyte : ∀ i : Fin 32, (Vector.replicate 32 (0x00 : Byte))[i] = 0x00 := fun i => Vector.getElem_replicate i.isLt
  refine ⟨fun s => rfl, rfl, reset_memRead, fun k => rfl, hbyte,
    fun v => ⟨PerVoice.get_all _ v, PerVoice.get_all _ v⟩, fun v => PerVoice.get_all _ v, rfl, rfl, rfl,
    fun v => PerVoice.get_all _ v, rfl, rfl, rfl, fun i => ⟨hbyte i, hbyte i, hbyte i⟩, rfl, rfl, rfl, rfl, rfl, rfl,
    rfl, rfl, rfl, rfl, rfl, rfl, rfl, rfl, rfl, ?_⟩
  rw [hratio]
  rfl

/-! ### The host's queue -/

theorem step_of_idle {s : State} (h : s.task = .idle) : step s = s.idleStep := by
  unfold step State.subStep
  rw [h]

theorem callProcess_of_pos {s : State} (h : 0 < s.params.sampleRate.toReal) (count : Nat) :
    s.callProcess count = .next { s with out := [], task := if count = 0 then .idle else .frame count } :=
  if_pos ((Number.pos_iff _).mpr h)

theorem callProcess_of_not_pos {s : State} (h : ¬ 0 < s.params.sampleRate.toReal) (count : Nat) :
    s.callProcess count = .refused .invalidSampleRate :=
  if_neg fun hpos => h ((Number.pos_iff _).mp hpos)

/-- Settles O49: an idle step looks at the queue, and `process` at the sign of the sample rate. -/
theorem hostCallsBeginFromQueue : Obligations.HostCallsBeginFromQueue := by
  intro s
  refine ⟨fun hidle hnone => ?_, fun c rest hidle hcalls => ?_, fun count h => callProcess_of_pos h count,
    fun count h => callProcess_of_not_pos h count, fun _ _ => rfl, fun _ => rfl, fun _ => rfl, fun _ => rfl⟩
  · rw [step_of_idle hidle, State.idleStep, hnone]
  · rw [step_of_idle hidle, State.idleStep, hcalls]

end Sys2Proof.Machine
end

section
/-! The stack, the jumps, calls and returns, BRK and the unsupported opcodes. -/

namespace Sys2Proof.Machine

/-! ### Words and their bytes -/

@[simp] theorem loByte_wordOf (hi lo : Byte) : loByte (wordOf hi lo) = lo := by
  refine BitVec.eq_of_getLsbD_eq fun i hi => ?_
  unfold loByte wordOf
  rw [BitVec.getLsbD_extractLsb', BitVec.getLsbD_append]
  simp [hi]

@[simp] theorem hiByte_wordOf (hi lo : Byte) : hiByte (wordOf hi lo) = hi := by
  refine BitVec.eq_of_getLsbD_eq fun i hi => ?_
  unfold hiByte wordOf
  rw [BitVec.getLsbD_extractLsb', BitVec.getLsbD_append]
  simp [hi]

/-- The low byte of a sum is the sum of the low bytes. -/
theorem loByte_add_one (w : Word) : loByte (w + 1) = loByte w + 1 := by
  have hsplit : ∀ v : Word, loByte v = v.setWidth 8 := fun v => BitVec.eq_of_toNat_eq (by simp [loByte])
  rw [hsplit, hsplit, BitVec.setWidth_add _ _ (by decide)]
  rfl

/-- The high byte of one word beside the low byte of another. -/
theorem wordOf_of_masks (v w : Word) : (v &&& 0xFF00) ||| (w &&& 0x00FF) = wordOf (hiByte v) (loByte w) := by
  have hmask : ∀ i : Fin 16, (0xFF00 : Word).getLsbD i = decide (8 ≤ i.val) ∧
      (0x00FF : Word).getLsbD i = decide (i.val < 8) := by decide
  refine BitVec.eq_of_getLsbD_eq fun i hi => ?_
  obtain ⟨hhigh, hlow⟩ := hmask ⟨i, hi⟩
  simp only at hhigh hlow
  rw [BitVec.getLsbD_or, BitVec.getLsbD_and, BitVec.getLsbD_and, hhigh, hlow]
  unfold wordOf hiByte loByte
  rw [BitVec.getLsbD_append, BitVec.getLsbD_extractLsb', BitVec.getLsbD_extractLsb']
  by_cases h8 : i < 8
  · simp [h8]
  · simp [h8, show 8 ≤ i by omega, show i - 8 < 8 by omega]

/-- The pointer's second byte is that of its own page with JMP_IND_WRAP, else that of the next address (30 R112). -/
theorem State.indTarget_wordOf (s : State) (b1 b2 : Byte) :
    s.indTarget (wordOf b2 b1) =
      wordOf (if s.params.jmpIndWrap then s.memRead (wordOf b2 (b1 + 1)) else s.memRead (wordOf b2 b1 + 1))
        (s.memRead (wordOf b2 b1)) := by
  unfold State.indTarget
  rw [wordOf_of_masks, hiByte_wordOf, loByte_add_one, loByte_wordOf]
  split <;> rfl

/-! ### The stack pointer after several pushes and pops -/

theorem byte_sub_one_sub_one (b : Byte) : b - 1 - 1 = b - 2 := by bv_omega

theorem byte_sub_two_sub_one (b : Byte) : b - 2 - 1 = b - 3 := by bv_omega

theorem byte_add_one_add_one (b : Byte) : b + 1 + 1 = b + 2 := BitVec.add_assoc b 1 1

theorem byte_add_one_add_two (b : Byte) : b + 1 + 2 = b + 3 := BitVec.add_assoc b 1 2

/-! ### Pushes and pops as writes and reads -/

/-- What is pushed does not depend on the fetch. -/
theorem State.push_retire (s : State) (n : Word) (op : Byte) (c : Nat) (b : Byte) :
    (s.retire n op c).push b = (s.push b).retire n op c := by
  unfold State.push
  rw [memWrite_retire]
  rfl

/-- A push is a write and the new stack pointer. -/
theorem State.push_eq (s : State) (b : Byte) :
    s.push b = (s.memWrite (s.params.stackPage ||| zext16 s.sp) b).setSP (s.sp - 1) := rfl

theorem State.push16_retire (s : State) (n : Word) (op : Byte) (c : Nat) (w : Word) :
    (s.retire n op c).push16 w = (s.push16 w).retire n op c := by
  unfold State.push16
  rw [push_retire, push_retire]

/-- The two writes of `Push16`. -/
theorem State.push16_eq (s : State) (w : Word) :
    s.push16 w =
      ((s.memWrite (s.params.stackPage ||| zext16 s.sp) (hiByte w)).memWrite
        (s.params.stackPage ||| zext16 (s.sp - 1)) (loByte w)).setSP (s.sp - 2) := by
  unfold State.push16
  rw [push_eq _ (loByte w), push_params, push_sp, push_eq, memWrite_setSP, byte_sub_one_sub_one]
  rfl

/-- Three bytes pushed, as BRK does. -/
theorem State.push16_push_eq (s : State) (w : Word) (b : Byte) :
    (s.push16 w).push b =
      (((s.memWrite (s.params.stackPage ||| zext16 s.sp) (hiByte w)).memWrite
          (s.params.stackPage ||| zext16 (s.sp - 1)) (loByte w)).memWrite
        (s.params.stackPage ||| zext16 (s.sp - 2)) b).setSP (s.sp - 3) := by
  rw [push_eq, push16_eq, memWrite_setSP, setSP_sp, byte_sub_two_sub_one, setSP_params, memWrite_params,
    memWrite_params]
  rfl

theorem State.popValue_eq (s : State) : s.popValue = s.memRead (s.params.stackPage ||| zext16 (s.sp + 1)) := rfl

/-- What is popped after a pop stands one byte higher. -/
theorem State.popped_popValue (s : State) :
    s.popped.popValue = s.memRead (s.params.stackPage ||| zext16 (s.sp + 2)) := by
  rw [← byte_add_one_add_one]
  rfl

theorem State.pop16Value_eq (s : State) :
    s.pop16Value =
      wordOf (s.memRead (s.params.stackPage ||| zext16 (s.sp + 2)))
        (s.memRead (s.params.stackPage ||| zext16 (s.sp + 1))) := by
  unfold State.pop16Value
  rw [popped_popValue, popValue_eq]

theorem State.popped_pop16Value (s : State) :
    s.popped.pop16Value =
      wordOf (s.memRead (s.params.stackPage ||| zext16 (s.sp + 3)))
        (s.memRead (s.params.stackPage ||| zext16 (s.sp + 2))) := by
  rw [pop16Value_eq, popped_sp, popped_params, byte_add_one_add_one, byte_add_one_add_two]
  rfl

theorem State.popped16_eq (s : State) : s.popped16 = s.setSP (s.sp + 2) := by
  rw [← byte_add_one_add_one]
  rfl

/-! ### What the flag updates keep -/

/-- An update of bits inside `m` keeps the status outside `m`. -/
theorem putBits_keepsBits {mask m : Byte} (h : mask ||| m = m) (b : Bool) (p : Byte) :
    KeepsBits m p (putBits mask b p) := by
  unfold KeepsBits
  rw [← h, BitVec.not_or, ← BitVec.and_assoc, ← BitVec.and_assoc, putBits_keeps]

theorem setNZ_setsNZ (v p : Byte) : SetsNZ v p (setNZ v p) := by
  refine ⟨setNZ_getLsbD v p 7 (by decide), setNZ_getLsbD v p 1 (by decide), ?_⟩
  have hz : KeepsBits 0x82 p (putZ (decide (v = 0)) p) := putBits_keepsBits (by decide) _ _
  have hn : KeepsBits 0x82 (putZ (decide (v = 0)) p) (setNZ v p) := putBits_keepsBits (by decide) _ _
  exact hn.trans hz

/-! ### The stack instructions -/

theorem exec_pha (s : State) : exec .pha s = .next ((s.retire 1 0x48 0).push s.a) := rfl

theorem exec_php (s : State) : exec .php s = .next ((s.retire 1 0x08 0).push (s.p ||| 0x30)) := rfl

theorem exec_pla (s : State) : exec .pla s = .next ((s.retire 1 0x68 0).popped.loadA s.popValue) := rfl

theorem exec_plp (s : State) : exec .plp s = .next ((s.retire 1 0x28 0).popped.setP (pulledStatus s.popValue)) := rfl

/-- The state after a push by an instruction of one byte. -/
theorem State.retire_push_eq (s : State) (op b : Byte) :
    (s.retire 1 op 0).push b =
      { s.memWrite (s.params.stackPage ||| zext16 s.sp) b with
        p := s.p
        sp := s.sp - 1
        pc := s.pc + 1
        cycles := s.params.cycles.entry op } := by
  rw [push_retire, push_eq]
  simp [State.retire, State.setSP]

/-- Settles O10: each push is one write, and what is pulled is one read. -/
theorem stackInstructionsComplete : Obligations.StackInstructionsComplete := by
  intro s
  refine ⟨⟨rfl, rfl, s.p, rfl, ?_⟩, ⟨rfl, rfl, s.p, rfl, ?_⟩, ⟨rfl, rfl, _, setNZ_setsNZ _ _, ?_⟩,
    ⟨rfl, rfl, _, rfl, ?_⟩⟩
  · rw [exec_pha, State.retire_push_eq]
    rfl
  · rw [exec_php, State.retire_push_eq]
    rfl
  · rw [exec_pla, State.popValue_eq]
    rfl
  · rw [exec_plp, State.popValue_eq]
    rfl

/-! ### Jumps, the call and the returns -/

theorem exec_jmpInd (ptr : Word) (s : State) :
    exec (.jmpInd ptr) s = .next ((s.retire 3 0x6C 0).setPC (s.indTarget ptr)) := rfl

theorem exec_jsr (addr : Word) (s : State) :
    exec (.jsr addr) s = .next (((s.retire 3 0x20 0).push16 (s.pc + 2)).setPC addr) := rfl

theorem exec_rts (s : State) : exec .rts s = .next ((s.retire 1 0x60 0).popped16.setPC (s.pop16Value + 1)) := rfl

theorem exec_rti (s : State) :
    exec .rti s =
      .next (((s.retire 1 0x40 0).popped.popped16.setP (pulledStatus s.popValue)).setPC s.popped.pop16Value) := rfl

/-- An instruction with an absolute operand is its opcode byte, then the operand's low and high byte (30 R92). -/
theorem encode_operand_wordOf (op b1 b2 : Byte) : [op, loByte (wordOf b2 b1), hiByte (wordOf b2 b1)] = [op, b1, b2] := by
  rw [loByte_wordOf, hiByte_wordOf]

/-- Settles O17: the target of an indirect jump is two reads, and the pushes of JSR are two writes. -/
theorem jumpsAndCallComplete : Obligations.JumpsAndCallComplete := by
  intro s b1 b2
  refine ⟨⟨encode_operand_wordOf .., rfl, rfl⟩, ⟨encode_operand_wordOf .., rfl, ?_⟩,
    ⟨encode_operand_wordOf .., rfl, ?_⟩⟩
  · rw [exec_jmpInd, State.indTarget_wordOf]
    rfl
  · rw [exec_jsr, State.push16_retire, State.push16_eq]
    simp [State.retire, State.setSP, State.setPC]

/-- Settles O18: each byte popped is one read above the stack pointer. -/
theorem returnsComplete : Obligations.ReturnsComplete := by
  intro s
  refine ⟨⟨rfl, rfl, ?_⟩, ⟨rfl, rfl, ?_⟩⟩
  · rw [exec_rts, State.popped16_eq, State.pop16Value_eq]
    rfl
  · rw [exec_rti, State.popped16_eq, State.popped_pop16Value, State.popped_sp, State.retire_sp, byte_add_one_add_two]
    rfl

/-! ### BRK -/

theorem exec_brk (s : State) : exec .brk s = .next ((s.retire 1 0x00 0).enterBreak (s.pc + 2)) := rfl

/-- A BRK by a fetched instruction: its three pushes, then the status, the vector's word and the cycle count. -/
theorem State.enterBreak_retire (s : State) (n : Word) (op : Byte) (c : Nat) (ret : Word) :
    (s.retire n op c).enterBreak ret =
      { (s.push16 ret).push (s.p ||| 0x30) with
        p := putI true s.p
        pc := ((s.push16 ret).push (s.p ||| 0x30)).memRead16 s.params.brkVector
        cycles := s.params.cycles.entry op + c } := by
  have hparams : ((s.push16 ret).push (s.p ||| 0x30)).params = s.params := by simp [State.push16]
  unfold State.enterBreak pushedStatus
  rw [retire_p, retire_params, push16_retire, push_retire]
  generalize (s.push16 ret).push (s.p ||| 0x30) = u at hparams ⊢
  rw [← hparams]
  rfl

/-- Settles O20: three pushes are three writes, after which the vector is read. -/
theorem brkCompletes : Obligations.BrkCompletes := by
  intro s
  refine ⟨rfl, rfl, _, putI true s.p, rfl, ⟨flagI_putI true s.p, putBits_keeps _ _ _⟩, ?_⟩
  rw [exec_brk, State.enterBreak_retire, State.push16_push_eq]
  rfl

/-! ### Unsupported opcodes -/

/-- Each of the 105 meanings is the one skip, at its own opcode byte. -/
theorem unsupportedRows_exec (s : State) :
    ∀ r ∈ unsupportedRows, exec r.2 s = .next (s.skipUnsupported r.1 (lengthIn s.params.unsupLen r.1)) :=
  List.map_inj_left.mp rfl

theorem unsupportedRows_opcode : ∀ r ∈ unsupportedRows, r.2.opcode = r.1 := by decide

theorem unsupportedRows_length : ∀ r ∈ unsupportedRows, lengthIn defaultUnsupLen r.1 = guessedLength r.1 := by decide

/-- Settles O21: every row skips by the same policy. -/
theorem unsupportedOpcodesComplete : Obligations.UnsupportedOpcodesComplete := by
  refine ⟨rfl, fun s op i h => ?_⟩
  obtain ⟨hmin, hmax⟩ := lengthIn_bounds s.params.unsupLen op
  exact ⟨unsupportedRows_opcode _ h, hmin, hmax, unsupportedRows_length _ h, unsupportedRows_exec s _ h⟩

end Sys2Proof.Machine
end

section
/-! Frequencies and phases over the reals (46 R243, 47 R281, R293, R303). -/

namespace Sys2Proof.Machine

/-! ### The real number of a frequency or a phase -/

theorem TemperedReal.toReal_eq_sum (x : TemperedReal) : x.toReal = ∑ k : Fin 12, x.coeff[k].toReal * twelfth k := rfl

/-- One multiple of one power. -/
theorem TemperedReal.toReal_single {k : Nat} (hk : k < 12) (q : Number) :
    (TemperedReal.single k q).toReal = q.toReal * twelfth k := by
  have hcoeff : ∀ i : Fin 12, (TemperedReal.single k q).coeff[i] = if i.val = k then q else .rat 0 := fun i => by
    unfold TemperedReal.single
    rw [Fin.getElem_fin, Vector.getElem_ofFn]
  rw [toReal_eq_sum, Finset.sum_eq_single ⟨k, hk⟩]
  · rw [hcoeff, if_pos rfl]
  · intro i _ hi
    rw [hcoeff, if_neg fun h => hi (Fin.ext h), Number.toReal_rat, Rat.cast_zero, zero_mul]
  · exact fun h => absurd (Finset.mem_univ _) h

@[simp] theorem TemperedReal.toReal_add (x y : TemperedReal) : (x.add y).toReal = x.toReal + y.toReal := by
  simp only [toReal_eq_sum, ← Finset.sum_add_distrib, TemperedReal.add, Fin.getElem_fin, Vector.getElem_zipWith,
    Number.toReal_add, add_mul]

@[simp] theorem TemperedReal.toReal_scale (q : Number) (x : TemperedReal) :
    (x.scale q).toReal = q.toReal * x.toReal := by
  simp only [toReal_eq_sum, Finset.mul_sum, TemperedReal.scale, Fin.getElem_fin, Vector.getElem_map,
    Number.toReal_mul, mul_assoc]

theorem TemperedReal.toReal_divide (x : TemperedReal) {q : Number} (h : q.toReal ≠ 0) :
    (x.divide q).toReal = x.toReal / q.toReal := by
  simp only [toReal_eq_sum, Finset.sum_div, TemperedReal.divide, Fin.getElem_fin, Vector.getElem_map,
    Number.toReal_div_of_ne _ h, div_mul_eq_mul_div]

/-! ### The computed floor is that of the real number -/

/-- What the coefficients are where all are held as rational numbers. -/
theorem eq_map_rat_of_rationals : ∀ {xs : List Number} {qs : List Rat}, rationals xs = some qs → xs = qs.map Number.rat
  | [], qs, h => by
    obtain rfl := Option.some.inj h
    rfl
  | x :: xs, qs, h => by
    unfold rationals at h
    split at h
    · rename_i q rs hq hrs
      obtain rfl := Option.some.inj h
      rw [Number.eq_rat_of_rational hq, eq_map_rat_of_rationals hrs, List.map_cons]
    · cases h

/-- A number with rational coefficients is the sum whose floor is computed. -/
theorem TemperedReal.toReal_of_rationals {x : TemperedReal} {cs : List Rat} (h : rationals x.coeff.toList = some cs) :
    cs.length = 12 ∧ x.toReal = temperedSum cs 0 := by
  have hmap := eq_map_rat_of_rationals h
  have hlen : cs.length = 12 := by simpa using (congrArg List.length hmap).symm
  have hcoeff : ∀ k : Fin 12, x.coeff[k] = .rat cs[k] := fun k => by
    have hk : x.coeff.toList[k.val] = .rat cs[k.val] := by simp only [hmap, List.getElem_map]
    exact (Vector.getElem_toList _).symm.trans hk
  have hcs : cs = List.ofFn fun k : Fin 12 => cs[k] := by
    refine List.ext_getElem (List.length_ofFn.trans hlen.symm).symm fun i _ _ => ?_
    rw [List.getElem_ofFn]
    rfl
  refine ⟨hlen, ?_⟩
  rw [hcs, temperedSum_ofFn, toReal_eq_sum]
  refine Finset.sum_congr rfl fun k _ => ?_
  rw [hcoeff, Number.toReal_rat, zero_add]

/-- Whatever the precision at which the bounds decide it, the floor found is that of the sum. -/
theorem floorWithin_eq {cs : List Rat} (hlen : cs.length = 12) :
    ∀ {fuel p : Nat} {k : Int}, floorWithin cs fuel p = some k → k = ⌊temperedSum cs 0⌋
  | 0, _, _, h => by cases h
  | fuel + 1, p, k, h => by
    unfold floorWithin at h
    split at h
    · rename_i hdecided
      rw [← Option.some.inj h]
      exact floor_of_decided hlen hdecided
    · exact floorWithin_eq hlen h

theorem TemperedReal.floor_eq (x : TemperedReal) : x.floor = ⌊x.toReal⌋ := by
  have hopen : openReals.floor x = ⌊x.toReal⌋ := openReals.floor_eq x
  unfold TemperedReal.floor
  split
  · rename_i cs hcs
    obtain ⟨hlen, hsum⟩ := toReal_of_rationals hcs
    split
    · rename_i k hk
      rw [hsum]
      exact floorWithin_eq hlen hk
    · exact hopen
  · exact hopen

@[simp] theorem TemperedReal.toReal_frac (x : TemperedReal) : x.frac.toReal = x.toReal - ⌊x.toReal⌋ := by
  unfold TemperedReal.frac
  rw [toReal_add, toReal_ofNumber, Number.toReal_rat, floor_eq, Rat.cast_neg, Rat.cast_intCast, sub_eq_add_neg]

/-- Settles O54, coefficient by coefficient; a floor by the precision that decided it. -/
theorem frequenciesAndPhasesAreReals : Obligations.FrequenciesAndPhasesAreReals :=
  ⟨fun x => ⟨x.floor_eq, x.toReal_frac⟩, TemperedReal.toReal_add, TemperedReal.toReal_scale,
    fun x _ => x.toReal_divide⟩

/-! ### Notes -/

/-- The number of members of `1 .. n` that are at most `m` is `m` clamped to `0 .. n`. -/
theorem countP_range_le (m : Int) (n : Nat) :
    (((List.range n).countP fun k : Nat => decide ((k : Int) + 1 ≤ m) : Nat) : Int) = max 0 (min (n : Int) m) := by
  induction n with
  | zero => simp
  | succ n ih =>
    rw [List.range_succ, List.countP_append, Nat.cast_add, ih, List.countP_singleton]
    by_cases h : (n : Int) + 1 ≤ m
    · simp only [h, decide_true, if_true]
      omega
    · simp only [h, decide_false, Bool.false_eq_true, if_false]
      omega

/-- The machine's comparison for the note `n`: on the scale of half-tones it is `n - 1/2 <= 12 * log2(r) + 69`. -/
theorem note_le_iff {r : ℝ} (hr : 0 < r) (n : Nat) :
    (4 : ℝ) ^ n / 2 ^ 139 ≤ r ^ 24 ↔ (n : Int) ≤ round (12 * Real.logb 2 r + 69) := by
  have hlog : Real.logb 2 ((4 : ℝ) ^ n / 2 ^ 139) = 2 * n - 139 := by
    rw [show (4 : ℝ) = 2 ^ 2 by norm_num, ← pow_mul, Real.logb_div (by positivity) (by positivity),
      Real.logb_pow, Real.logb_pow, Real.logb_self_eq_one (by norm_num)]
    push_cast
    ring
  rw [round_eq, Int.le_floor, ← Real.logb_le_logb (b := 2) (by norm_num) (by positivity) (by positivity), hlog,
    Real.logb_pow]
  push_cast
  constructor <;> intro h <;> linarith

/-- The note over exact reals is the rounded logarithm, clamped. -/
theorem noteOf_eq_realNote {hz : Number} (h : 0 < hz.toReal) : ((noteOf hz).val : Int) = realNote hz.toReal := by
  have h440 : (Number.rat 440).toReal = 440 := by norm_num [Number.toReal_rat]
  have hdiv : (hz.div (.rat 440)).toReal = hz.toReal / 440 := by
    rw [Number.toReal_div_of_ne _ (by rw [h440]; norm_num), h440]
  have htest : ∀ k : Nat, Number.le (.rat (4 ^ (k + 1) / 2 ^ 139)) ((hz.div (.rat 440)).pow 24) =
      decide ((k : Int) + 1 ≤ round (12 * Real.logb 2 (hz.toReal / 440) + 69)) := fun k => by
    have hk := note_le_iff (r := hz.toReal / 440) (by positivity) (k + 1)
    rw [Bool.eq_iff_iff, Number.le_iff, decide_eq_true_iff, Number.toReal_pow, hdiv, Number.toReal_rat]
    push_cast at hk ⊢
    exact hk
  have hcount := countP_range_le (round (12 * Real.logb 2 (hz.toReal / 440) + 69)) 127
  unfold noteOf realNote
  simp only [htest, Fin.val_ofNat]
  omega

/-- The frequency of a note (47 R281). -/
theorem noteHz_toReal (n : Fin 128) : (noteHz n).toReal = 440 * (2 : ℝ) ^ (((n.val : ℝ) - 69) / 12) := by
  have hsplit : ((n.val : ℝ) - 69) / 12 = ((n.val + 3) / 12 : Nat) + (((n.val + 3) % 12 : Nat) : ℝ) / 12 - (6 : Nat) := by
    have hdiv : (12 * ((n.val + 3) / 12 : Nat) + ((n.val + 3) % 12 : Nat) : ℝ) = n.val + 3 := by
      exact_mod_cast Nat.div_add_mod (n.val + 3) 12
    push_cast
    linarith
  unfold noteHz
  rw [TemperedReal.toReal_single (Nat.mod_lt _ (by norm_num)), Number.toReal_rat, hsplit,
    Real.rpow_sub (by norm_num), Real.rpow_add (by norm_num), Real.rpow_natCast, Real.rpow_natCast]
  unfold twelfth
  push_cast
  ring

/-- Settles O53: the machine counts the notes that are at most the rounded logarithm. -/
theorem noteIsNearestTemperedNote : Obligations.NoteIsNearestTemperedNote := by
  refine ⟨fun hz h => ?_, fun n => noteHz_toReal n⟩
  unfold noteIn
  rw [if_pos ((Number.pos_iff hz).mpr h)]
  exact noteOf_eq_realNote h

end Sys2Proof.Machine
end

section
/-! FILTER over the reals and at rest (47 R300). -/

namespace Sys2Proof.Machine

/-! ### The real number of a number of the filter -/

@[simp] theorem FilterReal.toReal_add (x y : FilterReal) : (x.add y).toReal = x.toReal + y.toReal := by
  unfold FilterReal.add
  split
  · exact Number.toReal_add _ _
  · rfl

@[simp] theorem FilterReal.toReal_scale (q : Number) (x : FilterReal) : (x.scale q).toReal = q.toReal * x.toReal := by
  unfold FilterReal.scale
  split
  · exact Number.toReal_mul _ _
  · rfl

/-- A difference in the reference domain. -/
theorem FilterReal.toReal_filterSub_exact (x y : FilterReal) :
    (NumDomain.exact.filterSub x y).toReal = x.toReal - y.toReal := by
  rw [numDomain_filterSub_exact, toReal_add, toReal_scale, Number.toReal_rat, Rat.cast_neg, Rat.cast_one,
    neg_one_mul, sub_eq_add_neg]

/-- At `r = 1/6` the coefficient is 1. -/
theorem filterCoeff_sixth : filterCoeff (1 / 6) = 1 := by
  unfold filterCoeff
  rw [mul_one_div, Real.sin_pi_div_six]
  norm_num

@[simp] theorem FilterReal.toReal_mulSin (r : Number) (x : FilterReal) :
    (x.mulSin r).toReal = filterCoeff r.toReal * x.toReal := by
  unfold FilterReal.mulSin
  split
  · rename_i hr
    have hsixth : r.toReal = 1 / 6 := by rw [hr]; norm_num [Number.toReal_rat]
    rw [hsixth, filterCoeff_sixth, one_mul]
  · split
    · rename_i hx
      rw [hx, toReal_zero, mul_zero]
    · rfl

/-! ### The default filter -/

@[simp] theorem timesCoefficient_exact (hz fs : Number) (x : FilterReal) :
    timesCoefficient .exact hz fs x = x.mulSin (hz.div fs) := rfl

@[simp] theorem timesCoefficient_rounding_zero (n : Nat) (hz fs : Number) :
    timesCoefficient (.rounding n) hz fs FilterReal.zero = FilterReal.zero :=
  numDomain_filterMul_zero _ _

theorem filterHz_toReal (cutoff fs : Number) :
    (filterHz .exact cutoff fs).toReal = min (30 + cutoff.toReal * 11970) (fs.toReal / 6) := by
  have hsix : (Number.rat 6).toReal ≠ 0 := by norm_num [Number.toReal_rat]
  simp [filterHz, Number.toReal_div_of_ne _ hsix]

theorem filterDamp_toReal (res : Number) : (filterDamp .exact res).toReal = 1.4 - 1.3 * res.toReal := by
  norm_num [filterDamp]

/-- The equations of 47 R300, with the coefficient as the machine takes it. -/
theorem filterStep_toReal (i : FilterIn FilterReal Number) :
    let r := filterStep .exact i
    let F := filterCoeff ((filterHz .exact i.cutoff i.fs).div i.fs).toReal
    let high := i.x.toReal - r.low.toReal - (filterDamp .exact i.res).toReal * i.band.toReal
    r.low.toReal = i.low.toReal + F * i.band.toReal ∧ r.band.toReal = i.band.toReal + F * high ∧
      r.y.toReal =
        match i.mode with
        | .lp => r.low.toReal
        | .bp => r.band.toReal
        | .hp => high
        | .off => 0 := by
  intro r F high
  have hlow : r.low.toReal = i.low.toReal + F * i.band.toReal := by simp [r, F, filterStep]
  have hhigh : (NumDomain.exact.filterSub (NumDomain.exact.filterSub (.number i.x) r.low)
      (NumDomain.exact.filterMul (filterDamp .exact i.res) i.band)).toReal = high := by
    simp only [high, FilterReal.toReal_filterSub_exact, numDomain_filterMul_exact, FilterReal.toReal_scale,
      FilterReal.toReal_number]
  have hband : r.band.toReal = i.band.toReal + F * high := by
    rw [← hhigh]
    exact (FilterReal.toReal_add _ _).trans (congrArg (i.band.toReal + ·) (FilterReal.toReal_mulSin _ _))
  refine ⟨hlow, hband, ?_⟩
  cases hm : i.mode with
  | lp => simp [r, filterStep, hm]
  | bp => simp [r, filterStep, hm]
  | hp => simpa only [r, filterStep, hm] using hhigh
  | off => simp [r, filterStep, hm]

/-- With no input the default filter at rest stays at rest, in every domain. -/
theorem filterStep_rest (num : NumDomain) {i : FilterIn FilterReal Number} (hx : IsZero num i.x)
    (hlow : IsFilterZero num i.low) (hband : IsFilterZero num i.band) :
    IsFilterZero num (filterStep num i).low ∧ IsFilterZero num (filterStep num i).band ∧
      IsFilterZero num (filterStep num i).y := by
  cases num with
  | exact =>
    obtain ⟨el, eb, ey⟩ := filterStep_toReal i
    simp only [IsZero, IsFilterZero] at *
    have zl : (filterStep .exact i).low.toReal = 0 := by rw [el, hlow, hband]; ring
    have zb : (filterStep .exact i).band.toReal = 0 := by rw [eb, zl, hx, hband]; ring
    refine ⟨zl, zb, ?_⟩
    rw [ey, zl, zb, hx, hband]
    cases i.mode <;> simp
  | rounding n =>
    simp only [IsZero, IsFilterZero] at *
    have hnum : FilterReal.number i.x = FilterReal.zero := congrArg FilterReal.number hx
    have zl : (filterStep (.rounding n) i).low = FilterReal.zero := by
      simp [filterStep, hlow, hband]
    have zb : (filterStep (.rounding n) i).band = FilterReal.zero := by
      simp [filterStep, hlow, hband, hnum]
    refine ⟨zl, zb, ?_⟩
    cases hm : i.mode <;> simp [filterStep, hlow, hband, hnum, hm]

/-! ### A replacement -/

/-- Over exact reals a replacement is the function that it stands for. -/
theorem replacementStep_toReal (n : Nat) (i : FilterIn FilterReal Number) :
    (replacementStep .exact n i).toReal = openReals.filter n i.toReal := by
  have hoff : i.mode = .off → (openReals.filter n i.toReal).y = 0 := openReals.filter_off n i.toReal
  have hy : (replacementStep .exact n i).y.toReal = (openReals.filter n i.toReal).y := by
    unfold replacementStep
    by_cases hm : i.mode = .off
    · rw [hoff hm]
      simp [hm]
    · simp only [if_neg hm]
      rfl
  unfold FilterOut.toReal
  rw [hy]
  rfl

theorem replacementStep_off (num : NumDomain) (n : Nat) {i : FilterIn FilterReal Number} (h : i.mode = .off) :
    (replacementStep num n i).y = FilterReal.zero := by
  unfold replacementStep
  simp only [if_pos h]
  cases num with
  | exact => rfl
  | rounding _ => exact (apply_ite FilterOut.y _ _ _).trans (ite_self _)

/-- With no input a replacement at rest stays at rest, in every domain. -/
theorem replacementStep_rest (num : NumDomain) (n : Nat) {i : FilterIn FilterReal Number} (hx : IsZero num i.x)
    (hlow : IsFilterZero num i.low) (hband : IsFilterZero num i.band) :
    IsFilterZero num (replacementStep num n i).low ∧ IsFilterZero num (replacementStep num n i).band ∧
      IsFilterZero num (replacementStep num n i).y := by
  cases num with
  | exact =>
    have hrest : (replacementStep .exact n i).toReal = { low := 0, band := 0, y := 0 } := by
      rw [replacementStep_toReal]
      exact openReals.filter_rest n i.toReal hx hlow hband
    exact ⟨congrArg FilterOut.low hrest, congrArg FilterOut.band hrest, congrArg FilterOut.y hrest⟩
  | rounding _ =>
    have hrest : i.x = .rat 0 ∧ i.low = FilterReal.zero ∧ i.band = FilterReal.zero := ⟨hx, hlow, hband⟩
    simp only [replacementStep, if_pos hrest]
    exact ⟨rfl, rfl, rfl⟩

/-! ### FILTER -/

theorem runFilter_stateVariable {p : Params} (h : p.filter = .stateVariable) (i : FilterIn FilterReal Number) :
    runFilter p i = filterStep p.num i := by
  unfold runFilter
  rw [h]

theorem runFilter_replacement {p : Params} {n : Nat} (h : p.filter = .replacement n)
    (i : FilterIn FilterReal Number) : runFilter p i = replacementStep p.num n i := by
  unfold runFilter
  rw [h]

theorem runFilter_off (p : Params) {i : FilterIn FilterReal Number} (h : i.mode = .off) :
    (runFilter p i).y = FilterReal.zero := by
  cases hf : p.filter with
  | stateVariable =>
    rw [runFilter_stateVariable hf]
    simp [filterStep, h]
  | replacement n =>
    rw [runFilter_replacement hf]
    exact replacementStep_off _ n h

theorem runFilter_rest (p : Params) {i : FilterIn FilterReal Number} (hx : IsZero p.num i.x)
    (hlow : IsFilterZero p.num i.low) (hband : IsFilterZero p.num i.band) :
    IsFilterZero p.num (runFilter p i).low ∧ IsFilterZero p.num (runFilter p i).band ∧
      IsFilterZero p.num (runFilter p i).y := by
  cases hf : p.filter with
  | stateVariable =>
    rw [runFilter_stateVariable hf]
    exact filterStep_rest _ hx hlow hband
  | replacement n =>
    rw [runFilter_replacement hf]
    exact replacementStep_rest _ n hx hlow hband

/-- Settles O55: the default by the equations of `filterStep`, a replacement by what `RealValues.filter` is. -/
theorem filterStepOverReals : Obligations.FilterStepOverReals := by
  refine ⟨fun p i hf hnum hfs => ?_, fun p i n hf hnum => ?_, fun p i => ⟨runFilter_rest p, runFilter_off p⟩⟩
  · have h := filterStep_toReal i
    rw [Number.toReal_div_of_ne _ hfs, filterHz_toReal, filterDamp_toReal] at h
    rw [runFilter_stateVariable hf, hnum]
    exact h
  · rw [runFilter_replacement hf, hnum]
    exact replacementStep_toReal n i

end Sys2Proof.Machine
end

section
/-! What each instruction can do to the state, said once: every meaning is one of the forms of `Form`, from which the frames
of registers and flags, the moves of a step and the independence of D and I follow. -/

namespace Sys2Proof.Machine

/-! ### Values and status updates that do not see D and I -/

/-- The value reads no bit of `P` but N, V, Z and C: inverting other bits does not change it. -/
def Unswayed {α : Type} (v : State → α) : Prop := ∀ s m, m &&& 0xC3 = 0 → v (s.setP (s.p ^^^ m)) = v s

theorem Unswayed.map {α β : Type} {v : State → α} (f : α → β) (hv : Unswayed v) : Unswayed fun s => f (v s) :=
  fun s m hm => congrArg f (hv s m hm)

theorem Unswayed.map₂ {α β γ : Type} {v : State → α} {w : State → β} (f : α → β → γ) (hv : Unswayed v)
    (hw : Unswayed w) : Unswayed fun s => f (v s) (w s) :=
  fun s m hm => congrArg₂ f (hv s m hm) (hw s m hm)

/-- The part of a mask that lies inside another one. -/
theorem and_eq_zero_of_subset {m mask sub : Byte} (h : m &&& mask = 0) (hsub : sub ||| mask = mask) :
    m &&& sub = 0 := by
  have hand : sub &&& mask = sub := by
    rw [← hsub]
    ext i hi
    cases hs : sub[i] <;> simp [hs]
  rw [← hand, BitVec.and_comm sub, ← BitVec.and_assoc, h]
  exact BitVec.zero_and

/-- A bit of the status survives the inversion of others. -/
theorem getLsbD_xor_of_disjoint {m mask : Byte} (p : Byte) (h : m &&& mask = 0) {k : Nat} (hk : mask.getLsbD k = true) :
    (p ^^^ m).getLsbD k = p.getLsbD k := by
  have hm : (m &&& mask).getLsbD k = false := by rw [h]; exact BitVec.getLsbD_zero
  rw [BitVec.getLsbD_and, hk, Bool.and_true] at hm
  rw [BitVec.getLsbD_xor, hm, Bool.xor_false]

theorem unswayed_flagN : Unswayed fun s => flagN s.p := fun s _ hm => getLsbD_xor_of_disjoint s.p hm (by decide)
theorem unswayed_flagV : Unswayed fun s => flagV s.p := fun s _ hm => getLsbD_xor_of_disjoint s.p hm (by decide)
theorem unswayed_flagZ : Unswayed fun s => flagZ s.p := fun s _ hm => getLsbD_xor_of_disjoint s.p hm (by decide)
theorem unswayed_flagC : Unswayed fun s => flagC s.p := fun s _ hm => getLsbD_xor_of_disjoint s.p hm (by decide)

/-- The new status keeps what lies outside `mask`, bits 5 and 4 among it, and inverting a bit other than N, V, Z, C and
those of `mask` before inverts just that bit after. -/
structure StatusUpdate (mask : Byte) (q : State → Byte) : Prop where
  live : mask &&& 0x30 = 0
  keeps : ∀ s, KeepsBits mask s.p (q s)
  flips : ∀ s m, m &&& 0xC3 = 0 → m &&& mask = 0 → q (s.setP (s.p ^^^ m)) = q s ^^^ m

theorem statusUpdate_id {mask : Byte} (h : mask &&& 0x30 = 0) : StatusUpdate mask fun s => s.p :=
  ⟨h, fun _ => rfl, fun _ _ _ _ => rfl⟩

/-- Setting bits and inverting others commute. -/
theorem putBits_xor {mask m : Byte} (b : Bool) (p : Byte) (h : m &&& mask = 0) :
    putBits mask b (p ^^^ m) = putBits mask b p ^^^ m := by
  refine BitVec.eq_of_getLsbD_eq fun i hi => ?_
  have hbit : (m &&& mask).getLsbD i = false := by rw [h]; exact BitVec.getLsbD_zero
  rw [BitVec.getLsbD_and] at hbit
  rw [BitVec.getLsbD_xor, putBits_getLsbD _ _ _ _ hi, putBits_getLsbD _ _ _ _ hi, BitVec.getLsbD_xor]
  cases hmask : mask.getLsbD i
  · rfl
  · rw [hmask, Bool.and_true] at hbit
    rw [hbit, if_pos rfl, if_pos rfl, Bool.xor_false]

theorem StatusUpdate.putBits {mask sub : Byte} {b : State → Bool} {q : State → Byte} (hq : StatusUpdate mask q)
    (hsub : sub ||| mask = mask) (hb : Unswayed b) : StatusUpdate mask fun s => putBits sub (b s) (q s) where
  live := hq.live
  keeps s := (putBits_keepsBits hsub _ _).trans (hq.keeps s)
  flips s m hm hmask := by
    rw [hb s m hm, hq.flips s m hm hmask]
    exact putBits_xor _ _ (and_eq_zero_of_subset hmask hsub)

theorem StatusUpdate.setNZ {mask : Byte} {v q : State → Byte} (hq : StatusUpdate mask q) (hsub : 0x82 ||| mask = mask)
    (hv : Unswayed v) : StatusUpdate mask fun s => setNZ (v s) (q s) := by
  have hz : 0x02 ||| mask = mask := by rw [← hsub, ← BitVec.or_assoc]; rfl
  have hn : 0x80 ||| mask = mask := by rw [← hsub, ← BitVec.or_assoc]; rfl
  exact (hq.putBits hz (hv.map fun b => decide (b = 0))).putBits hn (hv.map (·.getLsbD 7))

theorem statusUpdate_setNZ {v : State → Byte} (hv : Unswayed v) : StatusUpdate 0x82 fun s => setNZ (v s) s.p :=
  (statusUpdate_id (by decide)).setNZ (by decide) hv

/-- ADC's result and status see no flag but C. -/
theorem unswayed_adcResult {a v : State → Byte} (ha : Unswayed a) (hv : Unswayed v) :
    Unswayed fun s => adcResult (a s) (v s) (flagC s.p) :=
  (ha.map₂ (fun b m => adcResult b m) hv).map₂ (fun f c => f c) unswayed_flagC

theorem statusUpdate_adc {a v : State → Byte} (ha : Unswayed a) (hv : Unswayed v) :
    StatusUpdate 0xC3 fun s => adcStatus (a s) (v s) s.p := by
  have hop := ha.map₂ Prod.mk hv
  have hcarry := hop.map₂ (fun x c => adcCarry x.1 x.2 c) unswayed_flagC
  have hover := hop.map₂ (fun x c => adcOverflow x.1 x.2 c) unswayed_flagC
  exact (((statusUpdate_id (by decide)).putBits (by decide) hcarry).putBits (by decide) hover).setNZ (by decide)
    (unswayed_adcResult ha hv)

theorem statusUpdate_compare {r v : State → Byte} (hr : Unswayed r) (hv : Unswayed v) :
    StatusUpdate 0x83 fun s => compareStatus (r s) (v s) s.p := by
  have hc : StatusUpdate 0x83 fun s => putC (decide (v s ≤ r s)) s.p :=
    (statusUpdate_id (by decide)).putBits (by decide) (hr.map₂ (fun a m => decide (m ≤ a)) hv)
  have hz : StatusUpdate 0x83 fun s => putZ (decide (r s = v s)) (putC (decide (v s ≤ r s)) s.p) :=
    hc.putBits (by decide) (hr.map₂ (fun a m => decide (a = m)) hv)
  exact hz.putBits (by decide) (hr.map₂ (fun a m => (a - m).getLsbD 7) hv)

theorem statusUpdate_bit {a v : State → Byte} (ha : Unswayed a) (hv : Unswayed v) :
    StatusUpdate 0xC2 fun s => bitStatus (a s) (v s) s.p := by
  have hz : StatusUpdate 0xC2 fun s => putZ (decide (a s &&& v s = 0)) s.p :=
    (statusUpdate_id (by decide)).putBits (by decide) (ha.map₂ (fun b m => decide (b &&& m = 0)) hv)
  have ho : StatusUpdate 0xC2 fun s => putV ((v s).getLsbD 6) (putZ (decide (a s &&& v s = 0)) s.p) :=
    hz.putBits (by decide) (hv.map (·.getLsbD 6))
  exact ho.putBits (by decide) (hv.map (·.getLsbD 7))

theorem statusUpdate_left {v r : State → Byte} (hv : Unswayed v) (hr : Unswayed r) :
    StatusUpdate 0x83 fun s => leftStatus (v s) (r s) s.p := by
  have hc : StatusUpdate 0x83 fun s => putC ((v s).getLsbD 7) s.p :=
    (statusUpdate_id (by decide)).putBits (by decide) (hv.map (·.getLsbD 7))
  exact hc.setNZ (by decide) hr

theorem statusUpdate_right {v r : State → Byte} (hv : Unswayed v) (hr : Unswayed r) :
    StatusUpdate 0x83 fun s => rightStatus (v s) (r s) s.p := by
  have hc : StatusUpdate 0x83 fun s => putC ((v s).getLsbD 0) s.p :=
    (statusUpdate_id (by decide)).putBits (by decide) (hv.map (·.getLsbD 0))
  exact hc.setNZ (by decide) hr

theorem unswayed_rolResult {v : State → Byte} (hv : Unswayed v) : Unswayed fun s => rolResult (flagC s.p) (v s) :=
  unswayed_flagC.map₂ rolResult hv

theorem unswayed_rorResult {v : State → Byte} (hv : Unswayed v) : Unswayed fun s => rorResult (flagC s.p) (v s) :=
  unswayed_flagC.map₂ rorResult hv

/-! ### The forms of the meanings -/

/-- The bits of `P` that a mnemonic may write, from the table of 10 R27. -/
def statusMask : Mnemonic → Byte
  | .adc | .sbc => 0xC3
  | .cmp | .cpx | .cpy | .asl | .lsr | .rol | .ror => 0x83
  | .bit => 0xC2
  | .lda | .ldx | .ldy | .tax | .tay | .txa | .tya | .tsx | .pla | .and | .ora | .eor => 0x82
  | .inc | .dec | .inx | .iny | .dex | .dey => 0x82
  | .clc | .sec => 0x01
  | .cli | .sei | .brk => 0x04
  | .cld | .sed => 0x08
  | .clv => 0x40
  | .plp | .rti => 0xFF
  | .sta | .stx | .sty | .txs | .pha | .php | .bcc | .bcs | .beq | .bmi | .bne | .bpl | .bvc | .bvs => 0x00
  | .jmp | .jsr | .rts | .nop | .unsupported => 0x00

/-- The forms of an instruction's meaning: a register and the status, the status alone, a store, a store and the status,
the program counter, the nine that move the stack pointer, and the skip of an unsupported opcode. -/
inductive Form : Instr → (State → State) → Prop
  | toA {i : Instr} {n : Word} {op : Byte} {c : State → Nat} {v q : State → Byte} (hw : writesA i) (hc : Unswayed c)
      (hv : Unswayed v) (hq : StatusUpdate (statusMask i.mnemonic) q) :
      Form i fun s => ((s.retire n op (c s)).setA (v s)).setP (q s)
  | toX {i : Instr} {n : Word} {op : Byte} {c : State → Nat} {v q : State → Byte} (hw : writesX i) (hc : Unswayed c)
      (hv : Unswayed v) (hq : StatusUpdate (statusMask i.mnemonic) q) :
      Form i fun s => ((s.retire n op (c s)).setX (v s)).setP (q s)
  | toY {i : Instr} {n : Word} {op : Byte} {c : State → Nat} {v q : State → Byte} (hw : writesY i) (hc : Unswayed c)
      (hv : Unswayed v) (hq : StatusUpdate (statusMask i.mnemonic) q) :
      Form i fun s => ((s.retire n op (c s)).setY (v s)).setP (q s)
  | toP {i : Instr} {n : Word} {op : Byte} {c : State → Nat} {q : State → Byte} (hc : Unswayed c)
      (hq : StatusUpdate (statusMask i.mnemonic) q) : Form i fun s => (s.retire n op (c s)).setP (q s)
  | store {i : Instr} {n : Word} {op : Byte} {ea : State → Word} {v : State → Byte} (hm : statusMask i.mnemonic = 0)
      (ha : Unswayed ea) (hv : Unswayed v) : Form i fun s => (s.retire n op 0).memWrite (ea s) (v s)
  | modify {i : Instr} {n : Word} {op : Byte} {ea : State → Word} {v q : State → Byte} (ha : Unswayed ea)
      (hv : Unswayed v) (hq : StatusUpdate (statusMask i.mnemonic) q) :
      Form i fun s => ((s.retire n op 0).memWrite (ea s) (v s)).setP (q s)
  | jump {i : Instr} {n : Word} {op : Byte} {c : State → Nat} {target : State → Word}
      (hm : statusMask i.mnemonic = 0) (hc : Unswayed c) (ht : Unswayed target) :
      Form i fun s => (s.retire n op (c s)).setPC (target s)
  | txs : Form .txs fun s => (s.retire 1 0x9A 0).setSP s.x
  | pha : Form .pha fun s => (s.retire 1 0x48 0).push s.a
  | php : Form .php fun s => (s.retire 1 0x08 0).push (pushedStatus s.p)
  | pla : Form .pla fun s => (s.retire 1 0x68 0).popped.loadA s.popValue
  | plp : Form .plp fun s => (s.retire 1 0x28 0).popped.setP (pulledStatus s.popValue)
  | jsr {addr : Word} : Form (.jsr addr) fun s => ((s.retire 3 0x20 0).push16 (s.pc + 2)).setPC addr
  | rts : Form .rts fun s => (s.retire 1 0x60 0).popped16.setPC (s.pop16Value + 1)
  | rti : Form .rti fun s => (s.retire 1 0x40 0).returnFromBreak
  | brk : Form .brk fun s => (s.retire 1 0x00 0).enterBreak (s.pc + 2)
  | skip {i : Instr} {op : Byte} {len : Params → Nat} (hm : i.mnemonic = .unsupported) :
      Form i fun s => s.skipUnsupported op (len s.params)

/-- Whatever the branch tests is among N, V, Z and C. -/
theorem Form.branch {i : Instr} {op : Byte} {taken : State → Bool} {off : Byte} (hm : statusMask i.mnemonic = 0)
    (ht : Unswayed taken) : Form i fun s => s.branch op (taken s) off := by
  refine .jump hm (fun s m hm => ?_) (fun s m hm => ?_) <;> rw [ht s m hm] <;> rfl

/-- A value that does not read the status at all. -/
theorem Unswayed.of_blind {α : Type} {v : State → α} (h : ∀ s q, v (s.setP q) = v s := by intros; rfl) : Unswayed v :=
  fun s _ _ => h s _

/-- Every meaning has one of the forms. -/
theorem exec_form (i : Instr) : ∃ g, Form i g ∧ ∀ s, exec i s = .next (g s) := by
  cases i
  case ldaIzx | ldaZp | ldaImm | ldaAbs | ldaIzy | ldaZpx | ldaAby | ldaAbx | txa | tya | andIzx | andZp | andImm | andAbs
      | andIzy | andZpx | andAby | andAbx | oraIzx | oraZp | oraImm | oraAbs | oraIzy | oraZpx | oraAby | oraAbx | eorIzx
      | eorZp | eorImm | eorAbs | eorIzy | eorZpx | eorAby | eorAbx =>
    exact ⟨_, .toA (.inl (List.mem_of_elem_eq_true rfl)) .of_blind .of_blind
      (statusUpdate_setNZ .of_blind), fun _ => rfl⟩
  case adcIzx | adcZp | adcImm | adcAbs | adcIzy | adcZpx | adcAby | adcAbx | sbcIzx | sbcZp | sbcImm | sbcAbs | sbcIzy
      | sbcZpx | sbcAby | sbcAbx =>
    exact ⟨_, .toA (.inl (List.mem_of_elem_eq_true rfl)) .of_blind
      (unswayed_adcResult .of_blind .of_blind)
      (statusUpdate_adc .of_blind .of_blind), fun _ => rfl⟩
  case aslAcc => exact ⟨_, .toA (.inr rfl) .of_blind .of_blind (statusUpdate_left .of_blind .of_blind), fun _ => rfl⟩
  case lsrAcc => exact ⟨_, .toA (.inr rfl) .of_blind .of_blind (statusUpdate_right .of_blind .of_blind), fun _ => rfl⟩
  case rolAcc =>
    exact ⟨_, .toA (.inr rfl) .of_blind (unswayed_rolResult .of_blind)
      (statusUpdate_left .of_blind (unswayed_rolResult .of_blind)), fun _ => rfl⟩
  case rorAcc =>
    exact ⟨_, .toA (.inr rfl) .of_blind (unswayed_rorResult .of_blind)
      (statusUpdate_right .of_blind (unswayed_rorResult .of_blind)), fun _ => rfl⟩
  case ldxImm | ldxZp | ldxAbs | ldxZpy | ldxAby | tax | tsx | inx | dex =>
    exact ⟨_, .toX (List.mem_of_elem_eq_true rfl) .of_blind .of_blind (statusUpdate_setNZ .of_blind), fun _ => rfl⟩
  case ldyImm | ldyZp | ldyAbs | ldyZpx | ldyAbx | tay | iny | dey =>
    exact ⟨_, .toY (List.mem_of_elem_eq_true rfl) .of_blind .of_blind (statusUpdate_setNZ .of_blind), fun _ => rfl⟩
  case cmpIzx | cmpZp | cmpImm | cmpAbs | cmpIzy | cmpZpx | cmpAby | cmpAbx | cpxImm | cpxZp | cpxAbs | cpyImm | cpyZp
      | cpyAbs =>
    exact ⟨_, .toP .of_blind (statusUpdate_compare .of_blind .of_blind), fun _ => rfl⟩
  case bitZp | bitAbs => exact ⟨_, .toP .of_blind (statusUpdate_bit .of_blind .of_blind), fun _ => rfl⟩
  case clc | sec | cli | sei | clv | cld | sed =>
    exact ⟨_, .toP .of_blind ((statusUpdate_id (by decide)).putBits rfl .of_blind), fun _ => rfl⟩
  case staIzx | staZp | staAbs | staIzy | staZpx | staAby | staAbx | stxZp | stxAbs | stxZpy | styZp | styAbs | styZpx =>
    exact ⟨_, .store rfl .of_blind .of_blind, fun _ => rfl⟩
  case incZp | incAbs | incZpx | incAbx | decZp | decAbs | decZpx | decAbx =>
    exact ⟨_, .modify .of_blind .of_blind (statusUpdate_setNZ .of_blind), fun _ => rfl⟩
  case aslZp | aslAbs | aslZpx | aslAbx =>
    exact ⟨_, .modify .of_blind .of_blind (statusUpdate_left .of_blind .of_blind), fun _ => rfl⟩
  case lsrZp | lsrAbs | lsrZpx | lsrAbx =>
    exact ⟨_, .modify .of_blind .of_blind (statusUpdate_right .of_blind .of_blind), fun _ => rfl⟩
  case rolZp | rolAbs | rolZpx | rolAbx =>
    exact ⟨_, .modify .of_blind (unswayed_rolResult .of_blind)
      (statusUpdate_left .of_blind (unswayed_rolResult .of_blind)), fun _ => rfl⟩
  case rorZp | rorAbs | rorZpx | rorAbx =>
    exact ⟨_, .modify .of_blind (unswayed_rorResult .of_blind)
      (statusUpdate_right .of_blind (unswayed_rorResult .of_blind)), fun _ => rfl⟩
  case bcc => exact ⟨_, .branch rfl (unswayed_flagC.map not), fun _ => rfl⟩
  case bne => exact ⟨_, .branch rfl (unswayed_flagZ.map not), fun _ => rfl⟩
  case bpl => exact ⟨_, .branch rfl (unswayed_flagN.map not), fun _ => rfl⟩
  case bvc => exact ⟨_, .branch rfl (unswayed_flagV.map not), fun _ => rfl⟩
  case bcs => exact ⟨_, .branch rfl unswayed_flagC, fun _ => rfl⟩
  case beq => exact ⟨_, .branch rfl unswayed_flagZ, fun _ => rfl⟩
  case bmi => exact ⟨_, .branch rfl unswayed_flagN, fun _ => rfl⟩
  case bvs => exact ⟨_, .branch rfl unswayed_flagV, fun _ => rfl⟩
  case jmpAbs | jmpInd => exact ⟨_, .jump rfl .of_blind .of_blind, fun _ => rfl⟩
  case nop => exact ⟨_, .jump (n := 1) (target := fun s => s.pc + 1) rfl .of_blind .of_blind, fun _ => rfl⟩
  case txs => exact ⟨_, .txs, fun _ => rfl⟩
  case pha => exact ⟨_, .pha, fun _ => rfl⟩
  case php => exact ⟨_, .php, fun _ => rfl⟩
  case pla => exact ⟨_, .pla, fun _ => rfl⟩
  case plp => exact ⟨_, .plp, fun _ => rfl⟩
  case jsr => exact ⟨_, .jsr, fun _ => rfl⟩
  case rts => exact ⟨_, .rts, fun _ => rfl⟩
  case rti => exact ⟨_, .rti, fun _ => rfl⟩
  case brk => exact ⟨_, .brk, fun _ => rfl⟩
  -- What is left are the 105 unsupported opcodes.
  all_goals exact ⟨_, .skip (len := fun p => lengthIn p.unsupLen _) rfl, fun _ => rfl⟩

end Sys2Proof.Machine
end

section
/-! The frames of every instruction over registers and flags (10 R21 to R27), and that D and I influence nothing. -/

namespace Sys2Proof.Machine

/-! ### Registers -/

theorem Form.keepsRegisters {i : Instr} {g : State → State} (hg : Form i g) (s : State) :
    (¬ writesA i → (g s).a = s.a) ∧ (¬ writesX i → (g s).x = s.x) ∧ (¬ writesY i → (g s).y = s.y) ∧
      (¬ writesSP i → (g s).sp = s.sp) := by
  cases hg with
  | toA hw => exact ⟨fun h => absurd hw h, fun _ => rfl, fun _ => rfl, fun _ => rfl⟩
  | toX hw => exact ⟨fun _ => rfl, fun h => absurd hw h, fun _ => rfl, fun _ => rfl⟩
  | toY hw => exact ⟨fun _ => rfl, fun _ => rfl, fun h => absurd hw h, fun _ => rfl⟩
  | toP | jump | skip => exact ⟨fun _ => rfl, fun _ => rfl, fun _ => rfl, fun _ => rfl⟩
  | store | modify => simp
  | txs => exact ⟨fun _ => rfl, fun _ => rfl, fun _ => rfl, fun h => (h (List.mem_of_elem_eq_true rfl)).elim⟩
  | pla =>
    refine ⟨fun h => (h (.inl (List.mem_of_elem_eq_true rfl))).elim, fun _ => ?_, fun _ => ?_,
      fun h => (h (List.mem_of_elem_eq_true rfl)).elim⟩ <;> simp [State.loadA]
  | pha | php | plp | jsr | rts | rti | brk =>
    refine ⟨fun _ => ?_, fun _ => ?_, fun _ => ?_, fun h => (h (List.mem_of_elem_eq_true rfl)).elim⟩ <;>
      simp [State.push16, State.popped16, State.returnFromBreak, State.enterBreak]

/-- Settles O28, by the register that each form writes. -/
theorem onlyNamedInstructionsWriteRegisters : Obligations.OnlyNamedInstructionsWriteRegisters := by
  intro i s t h
  obtain ⟨g, hg, hexec⟩ := exec_form i
  obtain rfl : g s = t := Host.Outcome.next.inj ((hexec s).symm.trans h)
  exact hg.keepsRegisters s

/-! ### Flags -/

theorem KeepsBits.getLsbD_eq {mask p q : Byte} (h : KeepsBits mask p q) {k : Nat} (hlt : k < 8)
    (hk : mask.getLsbD k = false) : q.getLsbD k = p.getLsbD k := by
  have hbit : (q &&& ~~~mask).getLsbD k = (p &&& ~~~mask).getLsbD k := congrArg (·.getLsbD k) h
  rw [BitVec.getLsbD_and, BitVec.getLsbD_and, BitVec.getLsbD_not, hk] at hbit
  simpa only [hlt, decide_true, Bool.not_false, Bool.and_true] using hbit

/-- What lies outside the mask is kept as a whole. -/
theorem KeepsBits.and_eq {mask m p q : Byte} (h : KeepsBits mask p q) (hm : mask &&& m = 0) : q &&& m = p &&& m := by
  refine BitVec.eq_of_getLsbD_eq fun k hk => ?_
  have hbit : (mask &&& m).getLsbD k = false := by rw [hm]; exact BitVec.getLsbD_zero
  rw [BitVec.getLsbD_and] at hbit ⊢
  rw [BitVec.getLsbD_and]
  cases hmask : mask.getLsbD k
  · rw [h.getLsbD_eq hk hmask]
  · rw [hmask, Bool.true_and] at hbit
    rw [hbit, Bool.and_false, Bool.and_false]

theorem pulledStatus_ok (v : Byte) : StatusOk (pulledStatus v) := by
  constructor <;> simp [pulledStatus]

/-- An instruction writes no bit of `P` but those of its row; PLP and RTI load the whole of it. -/
theorem Form.status {i : Instr} {g : State → State} (hg : Form i g) (s : State) :
    (statusMask i.mnemonic &&& 0x30 = 0 ∧ KeepsBits (statusMask i.mnemonic) s.p (g s).p) ∨
      ((i.mnemonic = .plp ∨ i.mnemonic = .rti) ∧ StatusOk (g s).p) := by
  have none {mask : Byte} (h : mask = 0) : mask &&& 0x30 = 0 := by rw [h]; rfl
  cases hg with
  | toA _ _ _ hq | toX _ _ _ hq | toY _ _ _ hq | toP _ hq | modify _ _ hq => exact .inl ⟨hq.live, hq.keeps s⟩
  | jump hm => exact .inl ⟨none hm, rfl⟩
  | store hm => exact .inl ⟨none hm, by simp [KeepsBits]⟩
  | skip hm => exact .inl ⟨by rw [hm]; rfl, rfl⟩
  | txs | rts => exact .inl ⟨none rfl, rfl⟩
  | pha | php | jsr => exact .inl ⟨none rfl, by simp [KeepsBits, State.push16]⟩
  | pla => exact .inl ⟨rfl, (statusUpdate_setNZ (v := fun s => s.popValue) .of_blind).keeps s⟩
  | plp => exact .inr ⟨.inl rfl, pulledStatus_ok _⟩
  | rti => exact .inr ⟨.inr rfl, pulledStatus_ok _⟩
  | brk => exact .inl ⟨rfl, putBits_keeps _ _ _⟩

/-- The columns of the table of 10 R27. -/
theorem statusMask_columns (m : Mnemonic) :
    (m ∉ [Mnemonic.adc, .sbc, .and, .ora, .eor, .asl, .lsr, .rol, .ror, .inc, .dec, .inx, .iny, .dex, .dey, .lda, .ldx,
        .ldy, .tax, .tay, .txa, .tya, .tsx, .pla, .cmp, .cpx, .cpy, .bit, .plp, .rti] →
      (statusMask m).getLsbD 7 = false ∧ (statusMask m).getLsbD 1 = false) ∧
    (m ∉ [Mnemonic.adc, .sbc, .bit, .clv, .plp, .rti] → (statusMask m).getLsbD 6 = false) ∧
    (m ∉ [Mnemonic.sed, .cld, .plp, .rti] → (statusMask m).getLsbD 3 = false) ∧
    (m ∉ [Mnemonic.sei, .cli, .brk, .plp, .rti] → (statusMask m).getLsbD 2 = false) ∧
    (m ∉ [Mnemonic.adc, .sbc, .cmp, .cpx, .cpy, .asl, .lsr, .rol, .ror, .sec, .clc, .plp, .rti] →
      (statusMask m).getLsbD 0 = false) := by
  cases m <;> decide

/-- Settles O29: a form keeps the bits outside the instruction's row, and the columns say which rows have a flag. -/
theorem onlyNamedInstructionsWriteFlags : Obligations.OnlyNamedInstructionsWriteFlags := by
  intro i s t h
  obtain ⟨g, hg, hexec⟩ := exec_form i
  obtain rfl : g s = t := Host.Outcome.next.inj ((hexec s).symm.trans h)
  rcases hg.status s with ⟨hlive, hkeep⟩ | ⟨hm, hok⟩
  · obtain ⟨hNZ, hV, hD, hI, hC⟩ := statusMask_columns i.mnemonic
    have hpull : ¬ (i.mnemonic = .plp ∨ i.mnemonic = .rti) := by
      rintro (e | e) <;> rw [e] at hlive <;> exact absurd hlive (by decide)
    refine ⟨fun hw => ⟨hkeep.getLsbD_eq (by decide) (hNZ hw).1, hkeep.getLsbD_eq (by decide) (hNZ hw).2⟩,
      fun hw => hkeep.getLsbD_eq (by decide) (hV hw), fun hw => hkeep.getLsbD_eq (by decide) (hD hw),
      fun hw => hkeep.getLsbD_eq (by decide) (hI hw), fun hw => hkeep.getLsbD_eq (by decide) (hC hw), ?_⟩
    rw [if_neg hpull]
    exact hkeep.and_eq hlive
  · have named {P : Prop} {l : List Mnemonic} (hl : Mnemonic.plp ∈ l ∧ Mnemonic.rti ∈ l) (hw : i.mnemonic ∉ l) : P := by
      rcases hm with e | e <;> rw [e] at hw
      · exact absurd hl.1 hw
      · exact absurd hl.2 hw
    refine ⟨named (by decide), named (by decide), named (by decide), named (by decide), named (by decide), ?_⟩
    rw [if_pos hm]
    exact hok

/-! ### D and I -/

/-- A push does not see the status. -/
theorem State.push_setP (s : State) (q b : Byte) : (s.setP q).push b = (s.push b).setP q := by
  unfold State.push
  rw [memWrite_setP]
  rfl

theorem State.push16_setP (s : State) (q : Byte) (w : Word) : (s.setP q).push16 w = (s.push16 w).setP q := by
  unfold State.push16
  rw [push_setP, push_setP]

@[simp] theorem State.push16_p (s : State) (w : Word) : (s.push16 w).p = s.p := by simp [State.push16]

/-- Inverting a bit that an instruction neither tests nor writes commutes with it. -/
theorem Form.flip {i : Instr} {g : State → State} (hg : Form i g) (s : State) {m : Byte} (hm : m &&& 0xC3 = 0)
    (hmask : m &&& statusMask i.mnemonic = 0) (hp : i.mnemonic ∉ [Mnemonic.php, .brk, .plp, .rti]) :
    g (s.setP (s.p ^^^ m)) = (g s).setP ((g s).p ^^^ m) := by
  cases hg <;> beta_reduce
  case toA hc hv _ hq | toX hc hv _ hq | toY hc hv _ hq => rw [hc s m hm, hv s m hm, hq.flips s m hm hmask]; rfl
  case toP hc hq => rw [hc s m hm, hq.flips s m hm hmask]; rfl
  case jump hc ht _ => rw [hc s m hm, ht s m hm]; rfl
  case store ha hv _ =>
    rw [ha s m hm, hv s m hm, State.memWrite_p, State.memWrite_retire, State.memWrite_retire, State.memWrite_setP]
    rfl
  case modify ha hv hq =>
    rw [ha s m hm, hv s m hm, hq.flips s m hm hmask, State.memWrite_retire, State.memWrite_retire, State.memWrite_setP]
    rfl
  case pla =>
    have hflip := (statusUpdate_setNZ (v := fun s => s.popValue) .of_blind).flips s m hm hmask
    exact congrArg ((s.retire 1 0x68 0).popped.setA s.popValue).setP hflip
  case txs | rts | skip => rfl
  case pha =>
    rw [State.push_p, State.push_retire, State.push_retire, State.push_setP]
    rfl
  case jsr =>
    rw [State.setPC_p, State.push16_p, State.push16_retire, State.push16_retire, State.push16_setP]
    rfl
  case php | plp | rti | brk => exact absurd (List.mem_of_elem_eq_true rfl) hp

/-- The rows of the table of 10 R27 without D, and those without I. -/
theorem statusMask_disjoint (m : Mnemonic) (hp : m ∉ [Mnemonic.php, .brk, .plp, .rti]) :
    (m ∉ [Mnemonic.sed, .cld] → 0x08 &&& statusMask m = 0) ∧ (m ∉ [Mnemonic.sei, .cli] → 0x04 &&& statusMask m = 0) := by
  revert hp
  cases m <;> decide

/-- Settles O26, as the instructions that do not name the bit commute with its inversion. -/
theorem decimalAndInterruptFlagsAreUnread : Obligations.DecimalAndInterruptFlagsAreUnread := by
  intro i s t hp h
  obtain ⟨g, hg, hexec⟩ := exec_form i
  obtain rfl : g s = t := Host.Outcome.next.inj ((hexec s).symm.trans h)
  obtain ⟨hD, hI⟩ := statusMask_disjoint i.mnemonic hp
  refine ⟨fun hm => ?_, fun hm => ?_⟩ <;> refine (hexec _).trans (congrArg _ ?_)
  · exact hg.flip s (by decide) (hD hm) hp
  · exact hg.flip s (by decide) (hI hm) hp

end Sys2Proof.Machine
end

section
/-! The moves of a step: whatever sub-step of a host call the machine takes, on memory, cache, engine, status and parameters
it is a sequence of a few moves, so that what every move keeps every step keeps (00 R8). -/

namespace Sys2Proof.Machine

/-! ### The moves -/

/-- The states differ in nothing that the invariants of memory, status and engine speak of. -/
structure SameCore (s t : State) : Prop where
  mem : t.mem = s.mem
  cache : t.cache = s.cache
  engine : t.engine = s.engine
  p : t.p = s.p
  params : t.params = s.params

/-- What the scheduler does to the engine beside the bridge's calls (47 R304, 49 R348, 48 R323). -/
inductive EngineMove (p : Params) (e : Engine) : Engine → Prop
  | release : EngineMove p e e.releaseAll
  | sampleRate : EngineMove p e (e.setSampleRate p.sampleRate)
  | sample (mute : PerVoice Bool) : EngineMove p e (e.processOneSample p mute).engine

/-- One move of a step. -/
inductive Move (s : State) : State → Prop
  | other {t : State} (h : SameCore s t) : Move s t
  | write (a : Word) (v : Byte) : Move s (s.memWrite a v)
  | status {q : Byte} (h : StatusOk s.p → StatusOk q) : Move s (s.setP q)
  | coreReset : Move s s.coreReset
  | load (base : Nat) (bytes : List Byte) :
      Move s { s with mem := Memory.ofImage base bytes, cache := resetCache, engine := s.engine.restart }
  | engine {e : Engine} (h : EngineMove s.params s.engine e) : Move s { s with engine := e }

/-- A sequence of moves. -/
def Moves : State → State → Prop := Relation.ReflTransGen Move

theorem Moves.refl (s : State) : Moves s s := Relation.ReflTransGen.refl

theorem Move.moves {s t : State} (h : Move s t) : Moves s t := Relation.ReflTransGen.single h

theorem Moves.trans {s t u : State} (h : Moves s t) (h' : Moves t u) : Moves s u := Relation.ReflTransGen.trans h h'

theorem Moves.move {s t u : State} (h : Moves s t) (h' : Move t u) : Moves s u := h.trans h'.moves

theorem Moves.other {s t u : State} (h : Moves s t) (h' : SameCore t u) : Moves s u := h.move (.other h')

theorem SameCore.moves {s t : State} (h : SameCore s t) : Moves s t := (Move.other h).moves

/-- What every move keeps a sequence of moves keeps. -/
theorem Moves.keeps {P : State → Prop} (hmove : ∀ {s t}, P s → Move s t → P t) {s t : State} (h : Moves s t)
    (hs : P s) : P t := by
  induction h with
  | refl => exact hs
  | tail _ hm ih => exact hmove ih hm

/-! ### The processor -/

theorem push_moves (s : State) (b : Byte) : Moves s (s.push b) :=
  (Move.write (s.stackAddr s.sp) b).moves.other ⟨rfl, rfl, rfl, rfl, rfl⟩

theorem push16_moves (s : State) (w : Word) : Moves s (s.push16 w) := (push_moves s _).trans (push_moves _ _)

theorem retire_moves (s : State) (n : Word) (op : Byte) (c : Nat) : Moves s (s.retire n op c) :=
  SameCore.moves ⟨rfl, rfl, rfl, rfl, rfl⟩

/-- Bits 5 and 4 kept keep the live status. -/
theorem StatusOk.of_and_eq {p q : Byte} (h : q &&& 0x30 = p &&& 0x30) (hp : StatusOk p) : StatusOk q := by
  have hbit : ∀ k, (0x30 : Byte).getLsbD k = true → q.getLsbD k = p.getLsbD k := fun k hk => by
    have hk' : (q &&& 0x30).getLsbD k = (p &&& 0x30).getLsbD k := congrArg (·.getLsbD k) h
    rwa [BitVec.getLsbD_and, BitVec.getLsbD_and, hk, Bool.and_true, Bool.and_true] at hk'
  exact ⟨(hbit 5 (by decide)).trans hp.1, (hbit 4 (by decide)).trans hp.2⟩

theorem Form.keepsStatusOk {i : Instr} {g : State → State} (hg : Form i g) (s : State) (hs : StatusOk s.p) :
    StatusOk (g s).p := by
  rcases hg.status s with ⟨hlive, hkeep⟩ | ⟨_, hok⟩
  · exact hs.of_and_eq (hkeep.and_eq hlive)
  · exact hok

theorem Form.moves {i : Instr} {g : State → State} (hg : Form i g) (s : State) : Moves s (g s) := by
  have hstatus := hg.keepsStatusOk s
  cases hg <;> beta_reduce at hstatus ⊢
  case toA | toX | toY | toP | plp =>
    refine Moves.move ?_ (.status hstatus)
    exact SameCore.moves ⟨rfl, rfl, rfl, rfl, rfl⟩
  case pla =>
    unfold State.loadA at hstatus ⊢
    refine Moves.move ?_ (.status hstatus)
    exact SameCore.moves ⟨rfl, rfl, rfl, rfl, rfl⟩
  case rti =>
    refine Moves.other (t := (s.retire 1 0x40 0).popped.popped16.setP (pulledStatus s.popValue)) ?_
      ⟨rfl, rfl, rfl, rfl, rfl⟩
    refine Moves.move ?_ (.status hstatus)
    exact SameCore.moves ⟨rfl, rfl, rfl, rfl, rfl⟩
  case store => exact (retire_moves s _ _ _).move (.write _ _)
  case modify =>
    refine ((retire_moves s _ _ _).move (.write _ _)).move (.status ?_)
    rw [State.memWrite_p]
    exact hstatus
  case jump | txs | rts | skip => exact SameCore.moves ⟨rfl, rfl, rfl, rfl, rfl⟩
  case pha | php => exact (retire_moves s _ _ _).trans (push_moves _ _)
  case jsr => exact ((retire_moves s _ _ _).trans (push16_moves _ _)).other ⟨rfl, rfl, rfl, rfl, rfl⟩
  case brk =>
    have hpush := ((retire_moves s 1 0x00 0).trans (push16_moves _ (s.pc + 2))).trans (push_moves _ (pushedStatus s.p))
    refine Moves.other (hpush.move (.status (q := putI true s.p) ?_)) ⟨rfl, rfl, rfl, rfl, rfl⟩
    rw [State.push_p, State.push16_p]
    exact hstatus

theorem cpuStep_moves {s t : State} (h : s.cpuStep = .next t) : Moves s t := by
  unfold State.cpuStep at h
  split at h
  · obtain rfl := Host.Outcome.next.inj h
    exact SameCore.moves ⟨rfl, rfl, rfl, rfl, rfl⟩
  · obtain ⟨g, hg, hexec⟩ := exec_form s.fetchInstr
    obtain rfl := Host.Outcome.next.inj ((hexec s).symm.trans h)
    exact hg.moves s

/-! ### The burst loop -/

theorem guardBurst_sameCore (s : State) (caller : Caller) (spIn : Byte) (used : Nat) (pc0 : Word) :
    SameCore s (s.guardBurst caller spIn used pc0) := by
  unfold State.guardBurst
  split
  · exact ⟨rfl, rfl, rfl, rfl, rfl⟩
  · split <;> exact ⟨rfl, rfl, rfl, rfl, rfl⟩

theorem burstStep_moves {s t : State} {caller : Caller} {spIn : Byte} {used : Nat}
    (h : s.burstStep caller spIn used = .next t) : Moves s t := by
  unfold State.burstStep at h
  split at h
  · obtain rfl := Host.Outcome.next.inj h
    exact SameCore.moves ⟨rfl, rfl, rfl, rfl, rfl⟩
  · split at h
    · obtain rfl := Host.Outcome.next.inj h
      exact SameCore.moves ⟨rfl, rfl, rfl, rfl, rfl⟩
    · split at h
      · rename_i u hu
        obtain rfl := Host.Outcome.next.inj h
        exact (cpuStep_moves hu).other (guardBurst_sameCore ..)
      · cases h
      · cases h

/-! ### The host's calls -/

theorem stopPlayback_moves (s : State) : Moves s s.stopPlayback :=
  (Move.engine .release).moves.other ⟨rfl, rfl, rfl, rfl, rfl⟩

theorem fabricateCall_moves (s : State) (target : Word) (caller : Caller) : Moves s (s.fabricateCall target caller) :=
  (push16_moves s _).other ⟨rfl, rfl, rfl, rfl, rfl⟩

theorem beginStart_moves (s : State) : Moves s s.beginStart := by
  have hreset : Moves s { s.coreReset with engine := s.engine.setSampleRate s.params.sampleRate } :=
    Move.coreReset.moves.move (.engine .sampleRate)
  have hplay : Moves s
      { s.coreReset with
        engine := s.engine.setSampleRate s.params.sampleRate
        play :=
          { s.play with
            acc := .rat 0, elapsedMs := .rat 0, timing := timingOf s.params s.song.speed s.play.subsong } } :=
    hreset.other ⟨rfl, rfl, rfl, rfl, rfl⟩
  exact (hplay.trans (fabricateCall_moves _ s.song.initTarget .init)).other ⟨rfl, rfl, rfl, rfl, rfl⟩

theorem callStart_moves {s t : State} (h : s.callStart = .next t) : Moves s t := by
  unfold State.callStart at h
  split at h
  · split at h
    · obtain rfl := Host.Outcome.next.inj h
      refine Moves.trans ?_ (beginStart_moves _)
      split
      · exact stopPlayback_moves s
      · exact .refl _
    · cases h
  · obtain rfl := Host.Outcome.next.inj h
    exact .refl _

theorem callSelectSubsong_moves {s t : State} {n : Nat} (h : s.callSelectSubsong n = .next t) : Moves s t := by
  unfold State.callSelectSubsong at h
  split at h
  · have hplay : Moves s { s with play := { s.play with subsong := n, timing := timingOf s.params s.song.speed n } } :=
      SameCore.moves ⟨rfl, rfl, rfl, rfl, rfl⟩
    dsimp only at h
    split at h
    · exact hplay.trans (callStart_moves h)
    · obtain rfl := Host.Outcome.next.inj h
      exact hplay
  · obtain rfl := Host.Outcome.next.inj h
    exact .refl _

theorem callProcess_moves {s t : State} {count : Nat} (h : s.callProcess count = .next t) : Moves s t := by
  unfold State.callProcess at h
  split at h
  · obtain rfl := Host.Outcome.next.inj h
    exact SameCore.moves ⟨rfl, rfl, rfl, rfl, rfl⟩
  · cases h

theorem callLoad_moves (s : State) (file : List Byte) : Moves s (s.callLoad file) := by
  unfold State.callLoad
  split
  · rename_i img _
    exact ((stopPlayback_moves s).move (.load img.base.toNat img.bytes)).other ⟨rfl, rfl, rfl, rfl, rfl⟩
  · exact SameCore.moves ⟨rfl, rfl, rfl, rfl, rfl⟩

theorem beginCall_moves {s t : State} {c : HostCall} (h : s.beginCall c = .next t) : Moves s t := by
  cases c with
  | load bytes => obtain rfl := Host.Outcome.next.inj h; exact callLoad_moves s bytes
  | start => exact callStart_moves h
  | stop => obtain rfl := Host.Outcome.next.inj h; exact stopPlayback_moves s
  | process => exact callProcess_moves h
  | selectSubsong => exact callSelectSubsong_moves h
  | setMute | setGain | setLoopDetectionDisabled | bindCallback =>
    obtain rfl := Host.Outcome.next.inj h
    exact SameCore.moves ⟨rfl, rfl, rfl, rfl, rfl⟩

theorem idleStep_moves {s t : State} (h : s.idleStep = .next t) : Moves s t := by
  unfold State.idleStep at h
  split at h
  · obtain rfl := Host.Outcome.next.inj h
    exact .refl _
  · refine Moves.trans ?_ (beginCall_moves h)
    exact SameCore.moves ⟨rfl, rfl, rfl, rfl, rfl⟩

/-! ### Output frames -/

theorem chipFrameEnd_moves (s : State) : Moves s s.chipFrameEnd := SameCore.moves ⟨rfl, rfl, rfl, rfl, rfl⟩

theorem afterBurst_moves (s : State) (caller : Caller) : Moves s (s.afterBurst caller) := by
  cases caller with
  | init =>
    have hraise : SameCore s (if s.playAddress = 0 then s.raise .noPlayRoutine else s) := by
      split <;> exact ⟨rfl, rfl, rfl, rfl, rfl⟩
    exact hraise.moves.other ⟨rfl, rfl, rfl, rfl, rfl⟩
  | play left => exact (chipFrameEnd_moves s).other ⟨rfl, rfl, rfl, rfl, rfl⟩

theorem frameStep_moves (s : State) (left : Nat) : Moves s (s.frameStep left) := by
  unfold State.frameStep
  split
  · dsimp only
    split
    · split
      · refine Moves.trans ?_ (fabricateCall_moves _ _ _)
        exact SameCore.moves ⟨rfl, rfl, rfl, rfl, rfl⟩
      · exact SameCore.moves ⟨rfl, rfl, rfl, rfl, rfl⟩
    · exact SameCore.moves ⟨rfl, rfl, rfl, rfl, rfl⟩
  · exact SameCore.moves ⟨rfl, rfl, rfl, rfl, rfl⟩

theorem sampleStep_moves (s : State) (left : Nat) : Moves s (s.sampleStep left) :=
  (Move.engine (.sample s.ctl.mute)).moves.other ⟨rfl, rfl, rfl, rfl, rfl⟩

/-- A step is a sequence of moves. -/
theorem step_moves {s t : State} (h : step s = .next t) : Moves s t := by
  unfold step State.subStep at h
  split at h
  · exact idleStep_moves h
  · exact burstStep_moves h
  · obtain rfl := Host.Outcome.next.inj h
    exact afterBurst_moves s _
  · obtain rfl := Host.Outcome.next.inj h
    exact frameStep_moves s _
  · obtain rfl := Host.Outcome.next.inj h
    exact sampleStep_moves s _

/-! ### Memory and status -/

/-- RESET_P has the live status where it is well-formed. -/
theorem statusOk_resetP {p : Params} (h : p.statusOk = true) : StatusOk p.resetP := by
  simpa [Params.statusOk, StatusOk] using h

theorem Inv.move {s t : State} (hs : Inv s) (h : Move s t) : Inv t := by
  obtain ⟨hmem, hmore, hp, hreset⟩ := hs
  cases h with
  | other h => exact ⟨h.mem ▸ hmem, h.cache ▸ hmore, h.p ▸ hp, h.params ▸ hreset⟩
  | write a v =>
    rw [← State.memWrite_p s a v] at hp
    rw [← State.memWrite_params s a v] at hreset
    exact ⟨s.memWrite_wf a v hmem, s.memWrite_more_wf a v hmore, hp, hreset⟩
  | status h => exact ⟨hmem, hmore, h hp, hreset⟩
  | coreReset => exact ⟨hmem, hmore, statusOk_resetP hreset, hreset⟩
  | load base bytes => exact ⟨Memory.ofImage_wf base bytes, Memory.nil_wf, hp, hreset⟩
  | engine => exact ⟨hmem, hmore, hp, hreset⟩

/-- Settles O34: each move of the step keeps the invariant. -/
theorem everyStepKeepsMemoryAndStatus : Obligations.EveryStepKeepsMemoryAndStatus :=
  fun _ _ hs h => (step_moves h).keeps Inv.move hs

end Sys2Proof.Machine
end

section
/-! The bridge's decode of a window write: latches, CONTROL, the envelope, filter and volume registers (46 R232 to R250). -/

namespace Sys2Proof.Machine

/-! ### One voice changed -/

theorem PerVoice.get_set {α : Type} (t : PerVoice α) (v w : VoiceId) (x : α) :
    (t.set v x).get w = if w = v then x else t.get w := by
  fin_cases v <;> fin_cases w <;> rfl

@[simp] theorem PerVoice.get_set_self {α : Type} (t : PerVoice α) (v : VoiceId) (x : α) : (t.set v x).get v = x := by
  rw [get_set, if_pos rfl]

@[simp] theorem PerVoice.set_set {α : Type} (t : PerVoice α) (v : VoiceId) (x y : α) :
    (t.set v x).set v y = t.set v y := by
  fin_cases v <;> rfl

@[simp] theorem PerVoice.get_ofFn {α : Type} (f : VoiceId → α) (v : VoiceId) : (PerVoice.ofFn f).get v = f v := by
  fin_cases v <;> rfl

/-- Two changes of one voice are one change. -/
theorem Engine.onVoice_onVoice (e : Engine) (v : VoiceId) (f g : Voice → Voice) :
    (e.onVoice v f).onVoice v g = e.onVoice v fun w => g (f w) := by
  simp [Engine.onVoice]

/-! ### The register at an offset -/

theorem windowReg_control (v : VoiceId) : windowReg (7 * v.val + 4) = .control v := by fin_cases v <;> rfl

theorem windowReg_attackDecay (v : VoiceId) : windowReg (7 * v.val + 5) = .attackDecay v := by fin_cases v <;> rfl

theorem windowReg_sustainRelease (v : VoiceId) : windowReg (7 * v.val + 6) = .sustainRelease v := by
  fin_cases v <;> rfl

/-- The registers whose writes call nothing. -/
def WindowReg.silent : WindowReg → Bool
  | .freqLo _ | .freqHi _ | .pwLo _ | .pwHi _ | .unnamed => true
  | .control _ | .attackDecay _ | .sustainRelease _ | .fcLo | .fcHi | .resFilt | .modeVol => false

theorem windowReg_silent : ∀ o : Fin 32, (o.val ≤ 20 ∧ o.val % 7 ≤ 3) ∨ 25 ≤ o.val → (windowReg o.val).silent = true := by
  decide

/-! ### A window write -/

theorem bridgeCache_control {o : Nat} {v : VoiceId} (h : windowReg o = .control v) (b : Byte) (c : RegisterCache) :
    bridgeCache o b c = gateCache v (b.getLsbD 0) (c.setShadow o b) := by
  unfold bridgeCache
  rw [h]

/-- Beside CONTROL a window write is the shadow update on the cache. -/
theorem bridgeCache_of_not_control {o : Nat} (h : ∀ v, windowReg o ≠ .control v) (b : Byte) (c : RegisterCache) :
    bridgeCache o b c = c.setShadow o b := by
  unfold bridgeCache
  split
  · exact absurd ‹_› (h _)
  all_goals rfl

theorem dispatchWrite_silent {reg : WindowReg} (h : reg.silent = true) (p : Params) (b : Byte) (c : RegisterCache)
    (e : Engine) : dispatchWrite p reg b c e = e := by
  cases reg with
  | freqLo | freqHi | pwLo | pwHi | unnamed => rfl
  | control | attackDecay | sustainRelease | fcLo | fcHi | resFilt | modeVol => cases h

/-- A window write to another register than CONTROL: the shadow byte, then the register's engine calls. -/
theorem memWrite_of_register {s : State} {a : Word} {o : Fin 32} {reg : WindowReg}
    (ha : windowOffset s.params a = some o.val) (h : windowReg o.val = reg) (hc : ∀ v, reg ≠ .control v) (b : Byte) :
    s.memWrite a b =
      { s with
        cache := { s.cache with shadow := s.cache.shadow.set o b }
        engine := dispatchWrite s.params reg b { s.cache with shadow := s.cache.shadow.set o b } s.engine } := by
  subst h
  rw [State.memWrite_of_offset ha, bridgeCache_of_not_control hc]
  unfold bridgeEngine
  rw [RegisterCache.setShadow_fin]

/-- A write of CONTROL: the shadow byte, the setters and the gate. -/
theorem memWrite_of_control {s : State} {a : Word} {o : Fin 32} {v : VoiceId}
    (ha : windowOffset s.params a = some o.val) (h : windowReg o.val = .control v) (b : Byte) :
    s.memWrite a b =
      { s with
        cache := gateCache v (b.getLsbD 0) { s.cache with shadow := s.cache.shadow.set o b }
        engine :=
          gateAction s.params v (gateEdge (s.cache.prevGate.get v) (b.getLsbD 0))
            { s.cache with shadow := s.cache.shadow.set o b }
            (controlSetters v b { s.cache with shadow := s.cache.shadow.set o b } s.engine) } := by
  rw [State.memWrite_of_offset ha, bridgeCache_control h]
  unfold bridgeEngine
  rw [h, RegisterCache.setShadow_fin]
  rfl

/-! ### Latches and unnamed offsets -/

theorem wordOf_toNat (hi lo : Byte) : (wordOf hi lo).toNat = 256 * hi.toNat + lo.toNat := by
  unfold wordOf
  rw [BitVec.toNat_append, ← Nat.shiftLeft_add_eq_or_of_lt lo.isLt, Nat.shiftLeft_eq]
  omega

theorem pw12_toNat (c : RegisterCache) (v : VoiceId) :
    (c.pw12 v).toNat = 256 * ((c.voiceByte v 3).toNat % 16) + (c.voiceByte v 2).toNat := by
  unfold RegisterCache.pw12
  rw [BitVec.toNat_append, ← Nat.shiftLeft_add_eq_or_of_lt (c.voiceByte v 2).isLt, Nat.shiftLeft_eq,
    BitVec.extractLsb'_toNat]
  omega

/-- Settles O50: the registers there make no engine call. -/
theorem latchWritesCallNothing : Obligations.LatchWritesCallNothing := by
  intro s a o b ha
  refine ⟨fun ho => ?_, fun v => ⟨wordOf_toNat _ _, pw12_toNat _ v⟩⟩
  have hsilent := windowReg_silent o ho
  rw [memWrite_of_register ha rfl (fun v h => by rw [h] at hsilent; cases hsilent), dispatchWrite_silent hsilent]

/-! ### The parameter registers -/

theorem dispatchWrite_attackDecay (p : Params) (v : VoiceId) (b : Byte) (c : RegisterCache) (e : Engine) :
    dispatchWrite p (.attackDecay v) b c e =
      e.onVoice v fun w => { w with att := b.extractLsb' 4 4, dec := b.extractLsb' 0 4 } := by
  unfold dispatchWrite Engine.setAttack Engine.setDecay
  exact e.onVoice_onVoice v _ _

theorem dispatchWrite_sustainRelease (p : Params) (v : VoiceId) (b : Byte) (c : RegisterCache) (e : Engine) :
    dispatchWrite p (.sustainRelease v) b c e =
      e.onVoice v fun w => { w with sus := b.extractLsb' 4 4, rel := b.extractLsb' 0 4 } := by
  unfold dispatchWrite Engine.setSustain Engine.setRelease
  exact e.onVoice_onVoice v _ _

theorem cutoff11_toNat (c : RegisterCache) :
    c.cutoff11.toNat = 8 * (c.shadow[0x16]).toNat + (c.shadow[0x15]).toNat % 8 := by
  unfold RegisterCache.cutoff11
  rw [BitVec.toNat_append, ← Nat.shiftLeft_add_eq_or_of_lt (BitVec.isLt _), Nat.shiftLeft_eq,
    BitVec.extractLsb'_toNat]
  omega

theorem highNibble_toNat (b : Byte) : (b.extractLsb' 4 4).toNat = b.toNat / 16 := by
  rw [BitVec.extractLsb'_toNat, Nat.shiftRight_eq_div_pow]
  have := b.isLt
  omega

theorem modeOf_default {p : Params} (h : p.modePriority = [.lp, .bp, .hp]) (b : Byte) :
    modeOf p b = if b.getLsbD 4 then .lp else if b.getLsbD 5 then .bp else if b.getLsbD 6 then .hp else .off := by
  unfold modeOf
  rw [h]
  cases b.getLsbD 4 <;> cases b.getLsbD 5 <;> cases b.getLsbD 6 <;> rfl

/-- Settles O52, register by register. -/
theorem parameterWritesDecode : Obligations.ParameterWritesDecode := by
  intro s a o b ha
  refine ⟨fun v ho => ?_, fun v ho => ?_, fun ho => ?_, fun ho => ?_, fun ho hp => ?_⟩
  · rw [memWrite_of_register ha (ho ▸ windowReg_attackDecay v) (by simp), dispatchWrite_attackDecay]
    rfl
  · rw [memWrite_of_register ha (ho ▸ windowReg_sustainRelease v) (by simp), dispatchWrite_sustainRelease]
    rfl
  · rw [← cutoff11_toNat]
    rcases ho with ho | ho
    · exact memWrite_of_register ha (reg := .fcLo) (by rw [ho]; rfl) (by simp) b
    · exact memWrite_of_register ha (reg := .fcHi) (by rw [ho]; rfl) (by simp) b
  · rw [← highNibble_toNat]
    exact memWrite_of_register ha (reg := .resFilt) (by rw [ho]; rfl) (by simp) b
  · rw [← modeOf_default hp]
    exact memWrite_of_register ha (reg := .modeVol) (by rw [ho]; rfl) (by simp) b

/-! ### CONTROL -/

/-- The setters of CONTROL are one change of the voice. -/
theorem controlSetters_eq (v : VoiceId) (b : Byte) (c : RegisterCache) (e : Engine) :
    controlSetters v b c e =
      e.onVoice v fun w =>
        { w with
          wave := b.extractLsb' 4 4
          test := b.getLsbD 3
          ring := b.getLsbD 2
          sync := b.getLsbD 1
          pw := c.pw12 v } := by
  unfold controlSetters Engine.setWaveform Engine.setTest Engine.setRing Engine.setSync Engine.setPulseWidth
  rw [Engine.onVoice_onVoice, Engine.onVoice_onVoice, Engine.onVoice_onVoice, Engine.onVoice_onVoice]

theorem audible_iff (p : Params) (hz : Number) :
    audible p hz = true ↔ p.hzMin.toReal ≤ hz.toReal ∧ hz.toReal ≤ p.hzMax.toReal := by
  unfold audible
  rw [Bool.and_eq_true, Number.le_iff, Number.le_iff]

/-- A write of one register leaves the shadow bytes of the others. -/
theorem voiceByte_set_of_ne (c : RegisterCache) (o : Fin 32) (b : Byte) (v : VoiceId) (k : Fin 7)
    (h : o.val ≠ 7 * v.val + k.val) :
    RegisterCache.voiceByte { c with shadow := c.shadow.set o b } v k = c.voiceByte v k :=
  Vector.getElem_set_ne o.isLt _ h

/-- A write of CONTROL leaves the voice's latches. -/
theorem latches_set_control (c : RegisterCache) {o : Fin 32} (b : Byte) {v : VoiceId} (h : o.val = 7 * v.val + 4) :
    RegisterCache.freq16 { c with shadow := c.shadow.set o b } v = c.freq16 v ∧
      RegisterCache.pw12 { c with shadow := c.shadow.set o b } v = c.pw12 v := by
  have hbyte (k : Fin 7) (hk : k.val < 4) := voiceByte_set_of_ne c o b v k (by omega)
  unfold RegisterCache.freq16 RegisterCache.pw12
  rw [hbyte 0 (by decide), hbyte 1 (by decide), hbyte 2 (by decide), hbyte 3 (by decide)]
  exact ⟨rfl, rfl⟩

/-- Settles O51, by the four cases of the gate bit. -/
theorem controlWriteDecodes : Obligations.ControlWriteDecodes := by
  intro s a o v b ha ho
  obtain ⟨hfreq, hpw⟩ := latches_set_control s.cache b ho
  rw [memWrite_of_control ha (ho ▸ windowReg_control v), controlSetters_eq, hpw]
  unfold gateCache
  dsimp only
  cases hprev : s.cache.prevGate.get v <;> cases hnew : b.getLsbD 0 <;> unfold gateEdge gateAction <;> dsimp only
  case false.false => rfl
  case false.true =>
    rw [hfreq]
    unfold registerHz
    have haudible := audible_iff s.params (s.params.num.mul (.nat (s.cache.freq16 v).toNat) s.params.clockRatio)
    split
    · rename_i hz
      rw [if_pos (haudible.mp hz), Engine.noteOn, Engine.onVoice_onVoice]
      rfl
    · rename_i hz
      rw [if_neg fun h => hz (haudible.mpr h)]
      rfl
  case true.false =>
    rw [Engine.noteOff, Engine.onVoice_onVoice]
    rfl
  case true.true =>
    rw [hfreq]
    simp only [Bool.and_eq_true, decide_eq_true_eq]
    by_cases htrack : s.params.pitchTrack = true ∧ s.cache.baseFreq.get v ≠ 0
    · rw [if_pos htrack, if_pos htrack, Engine.setPitchRatio, Engine.onVoice_onVoice]
      rfl
    · rw [if_neg htrack, if_neg htrack]
      rfl

end Sys2Proof.Machine
end

section
/-! The bounds of the engine's levels, cutoff and resonance over exact reals (10 R37, R38, 47 R284, R286, R291, R292). -/

namespace Sys2Proof.Machine

/-! ### The bounds -/

/-- The number is in [0, 1]. -/
def InUnit (x : Number) : Prop := 0 ≤ x.toReal ∧ x.toReal ≤ 1

/-- Levels, cutoff and resonance are in [0, 1]. -/
structure EngineBounds (e : Engine) : Prop where
  level : ∀ v, InUnit (e.voices.get v).level
  cutoff : InUnit e.cutoff
  res : InUnit e.res

theorem inUnit_zero : InUnit (.rat 0) := by
  unfold InUnit
  norm_num

theorem inUnit_one : InUnit (.rat 1) := by
  unfold InUnit
  norm_num

/-- A quotient of natural numbers of which the second is the larger one. -/
theorem inUnit_div {n d : Nat} (hd : 0 < d) (h : n ≤ d) : InUnit (NumDomain.exact.div (.nat n) (.rat d)) := by
  have hpos : (0 : ℝ) < d := Nat.cast_pos.mpr hd
  have hreal : (Number.rat d).toReal = (d : ℝ) := Number.toReal_nat d
  unfold InUnit
  rw [numDomain_div_exact, Number.toReal_div_of_ne _ (hreal.trans_ne hpos.ne'), hreal, Number.toReal_nat]
  exact ⟨by positivity, (div_le_one hpos).mpr (Nat.cast_le.mpr h)⟩

theorem EngineBounds.onVoice {e : Engine} (he : EngineBounds e) (v : VoiceId) {f : Voice → Voice}
    (hf : ∀ w, (f w).level = w.level) : EngineBounds (e.onVoice v f) where
  level w := by
    unfold Engine.onVoice
    rw [PerVoice.get_set]
    split
    · rw [hf]; exact he.level v
    · exact he.level w
  cutoff := he.cutoff
  res := he.res

theorem engineBounds_reset (fs : Number) : EngineBounds (resetEngine fs) where
  level v := by
    unfold resetEngine
    rw [PerVoice.get_all]
    exact inUnit_zero
  cutoff := inUnit_zero
  res := inUnit_zero

/-! ### The bridge's calls -/

theorem EngineBounds.noteOff {e : Engine} (he : EngineBounds e) (v : VoiceId) : EngineBounds (e.noteOff v) :=
  he.onVoice v fun _ => rfl

theorem EngineBounds.controlSetters {e : Engine} (he : EngineBounds e) (v : VoiceId) (b : Byte) (c : RegisterCache) :
    EngineBounds (controlSetters v b c e) := by
  rw [controlSetters_eq]
  exact he.onVoice v fun _ => rfl

theorem EngineBounds.gateAction {e : Engine} (he : EngineBounds e) (p : Params) (v : VoiceId) (edge : GateEdge)
    (c : RegisterCache) : EngineBounds (gateAction p v edge c e) := by
  cases edge with
  | rise =>
    unfold Machine.gateAction
    dsimp only
    split
    · exact he.onVoice v fun _ => rfl
    · exact he
  | fall => exact he.noteOff v
  | held =>
    unfold Machine.gateAction
    dsimp only
    split
    · exact he.onVoice v fun _ => rfl
    · exact he
  | low => exact he

theorem EngineBounds.setFilterCutoff {e : Engine} (he : EngineBounds e) (c : BitVec 11) :
    EngineBounds (e.setFilterCutoff .exact c) :=
  ⟨he.level, inUnit_div (n := c.toNat) (d := 2047) (by decide) (Nat.le_of_lt_succ c.isLt), he.res⟩

theorem EngineBounds.setFilterResonance {e : Engine} (he : EngineBounds e) (n : BitVec 4) :
    EngineBounds (e.setFilterResonance .exact n) :=
  ⟨he.level, he.cutoff, inUnit_div (n := n.toNat) (d := 15) (by decide) (Nat.le_of_lt_succ n.isLt)⟩

theorem EngineBounds.dispatchWrite {e : Engine} (he : EngineBounds e) {p : Params} (hnum : p.num = .exact)
    (reg : WindowReg) (b : Byte) (c : RegisterCache) : EngineBounds (dispatchWrite p reg b c e) := by
  cases reg with
  | freqLo | freqHi | pwLo | pwHi | unnamed => exact he
  | control v => exact (he.controlSetters v b c).gateAction p v _ c
  | attackDecay v => rw [dispatchWrite_attackDecay]; exact he.onVoice v fun _ => rfl
  | sustainRelease v => rw [dispatchWrite_sustainRelease]; exact he.onVoice v fun _ => rfl
  | fcLo | fcHi =>
    unfold Machine.dispatchWrite
    rw [hnum]
    exact he.setFilterCutoff _
  | resFilt =>
    unfold Machine.dispatchWrite
    rw [hnum]
    have hres := he.setFilterResonance (b.extractLsb' 4 4)
    exact ⟨hres.level, hres.cutoff, hres.res⟩
  | modeVol => exact ⟨he.level, he.cutoff, he.res⟩

/-- No write to memory moves the sample rate. -/
theorem dispatchWrite_fs (p : Params) (reg : WindowReg) (b : Byte) (c : RegisterCache) (e : Engine) :
    (dispatchWrite p reg b c e).fs = e.fs := by
  cases reg with
  | control v =>
    unfold dispatchWrite gateAction
    dsimp only
    split
    · split <;> rfl
    · rfl
    · split <;> rfl
    · rfl
  | freqLo | freqHi | pwLo | pwHi | unnamed | attackDecay | sustainRelease | fcLo | fcHi | resFilt | modeVol => rfl

/-! ### The envelope -/

/-- Every entry of the envelope tables is positive. -/
theorem nibbleEntry_pos {t : Vector Number 16} (h : t.toList.all (Number.lt (.rat 0)) = true) (n : BitVec 4) :
    0 < (nibbleEntry t n).toReal :=
  (Number.pos_iff _).mp (List.all_eq_true.mp h _ (Vector.mem_toList_iff.mpr (Vector.getElem_mem _)))

theorem levelStep_pos {time fs : Number} (ht : 0 < time.toReal) (hfs : 0 < fs.toReal) :
    0 < (levelStep .exact time fs).toReal := by
  unfold levelStep
  rw [numDomain_div_exact, numDomain_mul_exact, Number.toReal_div_of_ne]
  · rw [Number.toReal_mul, Number.toReal_rat, Rat.cast_one]
    positivity
  · rw [Number.toReal_mul]
    positivity

theorem fallToSustain_inUnit {p : Params} {fs : Number} {w : Voice} (hnum : p.num = .exact) (hw : InUnit w.level)
    (hstep : 0 < (levelStep .exact (nibbleEntry p.decRelS w.dec) fs).toReal) : InUnit (fallToSustain p fs w) := by
  obtain ⟨hsus0, hsus1⟩ : InUnit (sustainLevel .exact w.sus) :=
    inUnit_div (n := w.sus.toNat) (d := 15) (by decide) (Nat.le_of_lt_succ w.sus.isLt)
  unfold fallToSustain
  rw [hnum]
  split
  · unfold InUnit
    rw [number_toReal_max, numDomain_sub_exact, Number.toReal_sub]
    exact ⟨le_max_of_le_left hsus0, max_le hsus1 (by linarith [hw.2])⟩
  · exact hw

/-- The envelope's step keeps the level in [0, 1] (47 R292). -/
theorem envelopeStep_inUnit {p : Params} {fs : Number} {w : Voice} (hnum : p.num = .exact) (htables : p.tablesOk = true)
    (hfs : 0 < fs.toReal) (hw : InUnit w.level) : InUnit (w.envelopeStep p fs).level := by
  obtain ⟨hattack, hdecrel⟩ := Bool.and_eq_true_iff.mp htables
  have hfall := fallToSustain_inUnit hnum hw (levelStep_pos (nibbleEntry_pos hdecrel w.dec) hfs)
  unfold Voice.envelopeStep
  split
  · exact inUnit_zero
  · split
    · exact inUnit_one
    · rename_i hbelow
      rw [Number.le_iff, Number.toReal_rat, Rat.cast_one, not_le] at hbelow
      have hda := levelStep_pos (nibbleEntry_pos hattack w.att) hfs
      refine ⟨?_, hbelow.le⟩
      unfold risenLevel
      rw [hnum, numDomain_add_exact, Number.toReal_add]
      linarith [hw.1]
  · exact hfall
  · exact hfall
  · split
    · exact inUnit_zero
    · rename_i habove
      rw [Number.le_iff, Number.toReal_rat, Rat.cast_zero, not_le] at habove
      have hdr := levelStep_pos (nibbleEntry_pos hdecrel w.rel) hfs
      refine ⟨habove.le, ?_⟩
      unfold releasedLevel
      rw [hnum, numDomain_sub_exact, Number.toReal_sub]
      linarith [hw.2]

theorem EngineBounds.processOneSample {e : Engine} (he : EngineBounds e) {p : Params} (hnum : p.num = .exact)
    (htables : p.tablesOk = true) (hfs : 0 < e.fs.toReal) (mute : PerVoice Bool) :
    EngineBounds (e.processOneSample p mute).engine where
  level v := by
    unfold Engine.processOneSample Engine.advanceVoices
    dsimp only
    rw [PerVoice.get_ofFn, PerVoice.get_ofFn]
    exact envelopeStep_inUnit hnum htables hfs (he.level v)
  cutoff := he.cutoff
  res := he.res

/-! ### The invariant -/

/-- The invariant in its two parts, what no move changes and the engine's bounds. -/
theorem engineInv_iff (s : State) :
    EngineInv s ↔ (s.params.num = .exact ∧ s.params.tablesOk = true ∧ 0 < s.params.sampleRate.toReal) ∧
      0 < s.engine.fs.toReal ∧ EngineBounds s.engine := by
  unfold EngineInv
  constructor
  · rintro ⟨hnum, htables, hrate, hfs, hlevel, hcut0, hcut1, hres0, hres1⟩
    exact ⟨⟨hnum, htables, hrate⟩, hfs, hlevel, ⟨hcut0, hcut1⟩, ⟨hres0, hres1⟩⟩
  · rintro ⟨⟨hnum, htables, hrate⟩, hfs, hlevel, ⟨hcut0, hcut1⟩, ⟨hres0, hres1⟩⟩
    exact ⟨hnum, htables, hrate, hfs, hlevel, hcut0, hcut1, hres0, hres1⟩

theorem EngineInv.move {s t : State} (hs : EngineInv s) (h : Move s t) : EngineInv t := by
  rw [engineInv_iff] at hs ⊢
  obtain ⟨hparams, hfs, hbounds⟩ := hs
  have ⟨hnum, htables, hrate⟩ := hparams
  cases h with
  | other h => rw [h.params, h.engine]; exact ⟨hparams, hfs, hbounds⟩
  | write a v =>
    rw [State.memWrite_params]
    rcases s.memWrite_cases a v with ⟨o, _, e⟩ | ⟨_, e⟩ <;> rw [e]
    · exact ⟨hparams, by rw [bridgeEngine, dispatchWrite_fs]; exact hfs, hbounds.dispatchWrite hnum _ _ _⟩
    · exact ⟨hparams, hfs, hbounds⟩
  | status | coreReset => exact ⟨hparams, hfs, hbounds⟩
  | load => exact ⟨hparams, hfs, engineBounds_reset _⟩
  | engine h =>
    cases h with
    | release => exact ⟨hparams, hfs, ((hbounds.noteOff 0).noteOff 1).noteOff 2⟩
    | sampleRate => exact ⟨hparams, hrate, hbounds.level, hbounds.cutoff, hbounds.res⟩
    | sample mute => exact ⟨hparams, hfs, hbounds.processOneSample hnum htables hfs mute⟩

/-- Settles O35: each move of the step keeps the bounds. -/
theorem everyStepKeepsEngineBounds : Obligations.EveryStepKeepsEngineBounds :=
  fun _ _ hs h => (step_moves h).keeps EngineInv.move hs

/-! ### At construction -/

theorem reset_tablesOk : State.reset.params.tablesOk = true := by
  unfold Params.tablesOk State.reset defaultParams defaultAttackS defaultDecRelS
  simp only [Vector.toList_map, List.all_map, Bool.and_eq_true, List.all_eq_true, Function.comp, Number.lt_iff,
    Number.toReal_rat, Rat.cast_lt]
  norm_num [Vector.toList]

theorem reset_engineInv : EngineInv State.reset := by
  refine (engineInv_iff _).mpr ⟨⟨rfl, reset_tablesOk, ?_⟩, ?_, engineBounds_reset _⟩ <;>
    exact (Number.pos_iff _).mp (by decide)

theorem reset_ratesOk : RatesOk State.reset.params :=
  ⟨(Number.pos_iff _).mp (by decide), (Number.pos_iff _).mp (by decide), (Number.le_iff _ _).mp (by decide),
    (Number.le_iff _ _).mp (by decide)⟩

/-- A chip frame has 882 samples at construction. -/
theorem reset_samplesPerFrame : State.reset.samplesPerFrame.toReal = 882 := by
  unfold State.samplesPerFrame
  refine (Number.toReal_div_of_ne (.rat 44100) (y := .rat 50) ?_).trans ?_ <;> norm_num

theorem reset_accInv : AccInv State.reset := by
  have hacc : State.reset.play.acc.toReal = 0 := Rat.cast_zero
  have hframe : 0 < State.reset.samplesPerFrame.toReal := by rw [reset_samplesPerFrame]; norm_num
  exact ⟨.inl rfl, reset_ratesOk, hacc.ge, hacc.trans_lt hframe, fun _ => hacc, fun h => absurd rfl h⟩

/-- Settles O33, part by part. -/
theorem invariantsHoldAtReset : Obligations.InvariantsHoldAtReset := by
  refine ⟨⟨rfl, rfl, ⟨rfl, rfl⟩, rfl⟩, reset_engineInv, reset_accInv⟩

end Sys2Proof.Machine
end

section
/-! What an instruction stores, as the write hook's calls in order (20 R63, R67 to R69), and that every step answers
(60 R373, R386). -/

namespace Sys2Proof.Machine

/-! ### Writes in order -/

/-- The states read the same memory through the same hooks, and have the same engine. -/
structure SameStorage (s t : State) : Prop where
  mem : t.mem = s.mem
  cache : t.cache = s.cache
  engine : t.engine = s.engine
  params : t.params = s.params

theorem SameStorage.memRead_eq {s t : State} (h : SameStorage s t) (a : Word) : t.memRead a = s.memRead a := by
  unfold State.memRead
  rw [h.mem, h.cache, h.params]

/-- From the first state to the second the write hook is called at the listed addresses, in this order, and nothing else
touches memory, the cache, the engine or the parameters. -/
inductive Stores : List Word → State → State → Prop
  | done {s t : State} (h : SameStorage s t) : Stores [] s t
  | write {s t : State} {a : Word} {addrs : List Word} (v : Byte) (hrest : Stores addrs (s.memWrite a v) t) :
      Stores (a :: addrs) s t

/-- A byte that the hook reads stays unless it is stored to. -/
theorem Stores.memRead_eq {addrs : List Word} {s t : State} (h : Stores addrs s t) {b : Word} (hb : b ∉ addrs) :
    t.memRead b = s.memRead b := by
  induction h with
  | done hsame => exact hsame.memRead_eq b
  | write _ _ ih =>
    obtain ⟨hne, hrest⟩ := List.ne_and_not_mem_of_not_mem_cons hb
    exact (ih hrest).trans (State.memRead_memWrite_of_ne _ _ hne)

/-- The write hook changes no other byte of the backing array, whether or not the address is in the window. -/
theorem State.mem_read_memWrite_of_ne (s : State) {a : Word} {k : Nat} (v : Byte) (h : k ≠ a.toNat) :
    (s.memWrite a v).mem.read k = s.mem.read k := by
  rcases s.memWrite_cases a v with ⟨_, _, e⟩ | ⟨_, e⟩ <;> rw [e]
  exact Memory.read_write_of_ne _ _ h

/-- A byte of the backing array stays unless its address is stored to. -/
theorem Stores.mem_read_eq {addrs : List Word} {s t : State} (h : Stores addrs s t) {k : Nat}
    (hk : ∀ a ∈ addrs, k ≠ a.toNat) : t.mem.read k = s.mem.read k := by
  induction h with
  | done hsame => rw [hsame.mem]
  | write _ _ ih =>
    obtain ⟨hne, hrest⟩ := List.forall_mem_cons.mp hk
    exact (ih hrest).trans (State.mem_read_memWrite_of_ne _ _ hne)

/-- Stores outside the window reach neither the cache nor the engine. -/
theorem Stores.cache_engine_eq {addrs : List Word} {s t : State} (h : Stores addrs s t)
    (hout : ∀ a ∈ addrs, windowOffset s.params a = none) : t.cache = s.cache ∧ t.engine = s.engine := by
  induction h with
  | done hsame => exact ⟨hsame.cache, hsame.engine⟩
  | write v _ ih =>
    obtain ⟨ha, hrest⟩ := List.forall_mem_cons.mp hout
    rw [State.memWrite_params] at ih
    obtain ⟨hcache, hengine⟩ := ih hrest
    rw [hcache, hengine, State.memWrite_of_outside ha]
    exact ⟨rfl, rfl⟩

/-! ### The stores of each instruction -/

section
variable (s : State) (n : Word) (op : Byte) (c : Nat)

theorem stores_setA_setP (v q : Byte) : Stores [] s (((s.retire n op c).setA v).setP q) := .done ⟨rfl, rfl, rfl, rfl⟩

theorem stores_setX_setP (v q : Byte) : Stores [] s (((s.retire n op c).setX v).setP q) := .done ⟨rfl, rfl, rfl, rfl⟩

theorem stores_setY_setP (v q : Byte) : Stores [] s (((s.retire n op c).setY v).setP q) := .done ⟨rfl, rfl, rfl, rfl⟩

theorem stores_setP (q : Byte) : Stores [] s ((s.retire n op c).setP q) := .done ⟨rfl, rfl, rfl, rfl⟩

theorem stores_setPC (target : Word) : Stores [] s ((s.retire n op c).setPC target) := .done ⟨rfl, rfl, rfl, rfl⟩

theorem stores_popped16_setPC (target : Word) : Stores [] s ((s.retire n op c).popped16.setPC target) := by
  unfold State.popped16
  exact .done ⟨by simp, by simp, by simp, by simp⟩

theorem stores_returnFromBreak : Stores [] s (s.retire n op c).returnFromBreak := by
  unfold State.returnFromBreak State.popped16
  exact .done ⟨by simp, by simp, by simp, by simp⟩

theorem stores_skipUnsupported (len : Nat) : Stores [] s (s.skipUnsupported op len) := .done ⟨rfl, rfl, rfl, rfl⟩

theorem stores_memWrite (a : Word) (v : Byte) :
    Stores [a] s ((s.retire n op c).memWrite a v) := by
  rw [State.memWrite_retire]
  exact .write v (.done ⟨rfl, rfl, rfl, rfl⟩)

/-- A read-modify-write sets the status after its store. -/
theorem stores_memWrite_setP (a : Word) (v q : Byte) :
    Stores [a] s (((s.retire n op c).memWrite a v).setP q) := by
  rw [State.memWrite_retire]
  exact .write v (.done ⟨rfl, rfl, rfl, rfl⟩)

theorem stores_push (b : Byte) :
    Stores [s.stackAddr s.sp] s ((s.retire n op c).push b) := by
  rw [State.push_retire]
  exact .write b (.done ⟨rfl, rfl, rfl, rfl⟩)

theorem stores_push16_setPC (w target : Word) :
    Stores [s.stackAddr s.sp, s.stackAddr (s.sp - 1)] s (((s.retire n op c).push16 w).setPC target) := by
  unfold State.stackAddr
  rw [State.push16_retire, State.push16_eq]
  exact .write (hiByte w) (.write (loByte w) (.done ⟨by simp, by simp, by simp, by simp⟩))

theorem stores_enterBreak (ret : Word) :
    Stores [s.stackAddr s.sp, s.stackAddr (s.sp - 1), s.stackAddr (s.sp - 2)] s
      ((s.retire n op c).enterBreak ret) := by
  unfold State.stackAddr
  rw [State.enterBreak_retire, State.push16_push_eq]
  exact .write (hiByte ret) (.write (loByte ret) (.write (s.p ||| 0x30) (.done ⟨by simp, by simp, by simp, by simp⟩)))

end

/-- Every instruction answers, and stores to the addresses of `storedAt` alone: a store or a read-modify-write once, after
the fetch; a push once for each byte; the others nowhere. -/
theorem exec_stores (i : Instr) (s : State) : ∃ t, exec i s = .next t ∧ Stores (storedAt i s) s t := by
  cases i
  case staIzx | staZp | staAbs | staIzy | staZpx | staAby | staAbx | stxZp | stxAbs | stxZpy | styZp | styAbs | styZpx =>
    exact ⟨_, rfl, stores_memWrite ..⟩
  case incZp | incAbs | incZpx | incAbx | decZp | decAbs | decZpx | decAbx | aslZp | aslAbs | aslZpx | aslAbx | lsrZp
      | lsrAbs | lsrZpx | lsrAbx | rolZp | rolAbs | rolZpx | rolAbx | rorZp | rorAbs | rorZpx | rorAbx =>
    exact ⟨_, rfl, stores_memWrite_setP ..⟩
  case pha | php => exact ⟨_, rfl, stores_push ..⟩
  case jsr => exact ⟨_, rfl, stores_push16_setPC ..⟩
  case brk => exact ⟨_, rfl, stores_enterBreak ..⟩
  case ldaIzx | ldaZp | ldaImm | ldaAbs | ldaIzy | ldaZpx | ldaAby | ldaAbx | txa | tya | andIzx | andZp | andImm | andAbs
      | andIzy | andZpx | andAby | andAbx | oraIzx | oraZp | oraImm | oraAbs | oraIzy | oraZpx | oraAby | oraAbx | eorIzx
      | eorZp | eorImm | eorAbs | eorIzy | eorZpx | eorAby | eorAbx | adcIzx | adcZp | adcImm | adcAbs | adcIzy | adcZpx
      | adcAby | adcAbx | sbcIzx | sbcZp | sbcImm | sbcAbs | sbcIzy | sbcZpx | sbcAby | sbcAbx | aslAcc | lsrAcc | rolAcc
      | rorAcc =>
    exact ⟨_, rfl, stores_setA_setP ..⟩
  case ldxImm | ldxZp | ldxAbs | ldxZpy | ldxAby | tax | tsx | inx | dex => exact ⟨_, rfl, stores_setX_setP ..⟩
  case ldyImm | ldyZp | ldyAbs | ldyZpx | ldyAbx | tay | iny | dey => exact ⟨_, rfl, stores_setY_setP ..⟩
  case cmpIzx | cmpZp | cmpImm | cmpAbs | cmpIzy | cmpZpx | cmpAby | cmpAbx | cpxImm | cpxZp | cpxAbs | cpyImm | cpyZp
      | cpyAbs | bitZp | bitAbs | clc | sec | cli | sei | clv | cld | sed =>
    exact ⟨_, rfl, stores_setP ..⟩
  case bcc | bcs | bne | beq | bpl | bmi | bvc | bvs | jmpAbs | jmpInd => exact ⟨_, rfl, stores_setPC ..⟩
  case rts => exact ⟨_, rfl, stores_popped16_setPC ..⟩
  case rti => exact ⟨_, rfl, stores_returnFromBreak ..⟩
  case nop | txs | pla | plp => exact ⟨_, rfl, .done ⟨rfl, rfl, rfl, rfl⟩⟩
  all_goals exact ⟨_, rfl, stores_skipUnsupported ..⟩

/-- Settles O27, by induction on the calls of the write hook that the instruction makes. -/
theorem bytesOutsideStoredAddressesKept : Obligations.BytesOutsideStoredAddressesKept := by
  intro i s t h
  obtain ⟨u, hexec, hstores⟩ := exec_stores i s
  obtain rfl : u = t := Host.Outcome.next.inj (hexec.symm.trans h)
  exact ⟨fun _ => hstores.memRead_eq, fun _ => hstores.mem_read_eq, hstores.cache_engine_eq⟩

/-! ### Every step answers -/

theorem exec_answers (i : Instr) (s : State) : ∃ t, exec i s = .next t :=
  have ⟨t, hexec, _⟩ := exec_stores i s
  ⟨t, hexec⟩

theorem cpuStep_answers (s : State) : ∃ t, s.cpuStep = .next t := by
  unfold State.cpuStep
  split
  · exact ⟨_, rfl⟩
  · exact exec_answers _ s

theorem burstStep_answers (s : State) (caller : Caller) (spIn : Byte) (used : Nat) :
    ∃ t, s.burstStep caller spIn used = .next t := by
  obtain ⟨u, hu⟩ := cpuStep_answers s
  unfold State.burstStep
  rw [hu]
  split
  · exact ⟨_, rfl⟩
  · split <;> exact ⟨_, rfl⟩

theorem callStart_answers {s : State} (h : 0 < s.params.sampleRate.toReal) : ∃ t, s.callStart = .next t := by
  unfold State.callStart
  split
  · exact ⟨_, if_pos ((Number.pos_iff _).mpr h)⟩
  · exact ⟨_, rfl⟩

/-- Selecting a subsong while Playing starts it, at the same sample rate. -/
theorem callSelectSubsong_answers {s : State} (h : 0 < s.params.sampleRate.toReal) (n : Nat) :
    ∃ t, s.callSelectSubsong n = .next t := by
  unfold State.callSelectSubsong
  split
  · dsimp only
    split
    · exact callStart_answers h
    · exact ⟨_, rfl⟩
  · exact ⟨_, rfl⟩

/-- Only `start`, `process` and `select_subsong` look at the sample rate. -/
theorem beginCall_answers {s : State} (h : 0 < s.params.sampleRate.toReal) (c : HostCall) :
    ∃ t, s.beginCall c = .next t := by
  cases c with
  | start => exact callStart_answers h
  | process count => exact ⟨_, callProcess_of_pos h count⟩
  | selectSubsong n => exact callSelectSubsong_answers h n
  | load | stop | setMute | setGain | setLoopDetectionDisabled | bindCallback => exact ⟨_, rfl⟩

theorem idleStep_answers {s : State} (h : 0 < s.params.sampleRate.toReal) : ∃ t, s.idleStep = .next t := by
  unfold State.idleStep
  split
  · exact ⟨_, rfl⟩
  · rename_i c rest _
    exact beginCall_answers (s := { s with calls := rest }) h c

theorem step_answers {s : State} (h : 0 < s.params.sampleRate.toReal) : ∃ t, step s = .next t := by
  unfold step State.subStep
  split
  · exact idleStep_answers h
  · exact burstStep_answers s _ _ _
  · exact ⟨_, rfl⟩
  · exact ⟨_, rfl⟩
  · exact ⟨_, rfl⟩

/-- Settles O38, by where the step stands inside a host call. -/
theorem everyInstructionAndStepAnswers : Obligations.EveryInstructionAndStepAnswers :=
  ⟨exec_answers, fun _ => step_answers⟩

end Sys2Proof.Machine
end

section
/-! The encoding (30 R90 to R99): each instruction has one of four forms, by its operand bytes, and in each the opcode matrix
and the encoder name the same instruction. -/

namespace Sys2Proof

/-! ### The forms of encoding -/

@[simp] theorem wordOf_hiByte_loByte (w : Word) : wordOf (hiByte w) (loByte w) = w := by
  refine BitVec.eq_of_getLsbD_eq fun i hi => ?_
  unfold wordOf hiByte loByte
  rw [BitVec.getLsbD_append, BitVec.getLsbD_extractLsb', BitVec.getLsbD_extractLsb']
  by_cases h8 : i < 8
  · simp [h8]
  · simp [h8, show 8 + (i - 8) = i by omega, show i - 8 < 8 by omega]

/-- The forms of an instruction's encoding: the opcode byte `op` alone, with a byte or with a word as the operand, and the
skipped bytes of an unsupported opcode. Of each form is said how it is encoded and what its row of the opcode matrix makes of
the bytes after the opcode. -/
inductive EncodingForm (op : Byte) : Instr → Prop
  | alone {i : Instr} (encodes : ∀ ul, encode ul i = [op]) (decodes : ∀ b1 b2, decode3 op b1 b2 = i) : EncodingForm op i
  | withByte {f : Byte → Instr} (b : Byte) (encodes : ∀ ul b, encode ul (f b) = [op, b])
      (decodes : ∀ b1 b2, decode3 op b1 b2 = f b1) : EncodingForm op (f b)
  | withWord {f : Word → Instr} (w : Word) (encodes : ∀ ul w, encode ul (f w) = [op, loByte w, hiByte w])
      (decodes : ∀ b1 b2, decode3 op b1 b2 = f (wordOf b2 b1)) : EncodingForm op (f w)
  | skipped {i : Instr} (encodes : ∀ ul, encode ul i = skippedBytes ul op) (decodes : ∀ b1 b2, decode3 op b1 b2 = i)
      (unsupported : unsupportedByte op = true) : EncodingForm op i

/-- Every instruction has the form of its row of 30 R95 or R99. -/
theorem exists_encodingForm (i : Instr) : ∃ op, EncodingForm op i := by
  cases i
  case brk | php | clc | plp | sec | rti | pha | cli | rts | pla | sei | dey | txa | tya | txs | tay | tax | clv | tsx | iny
      | dex | cld | inx | nop | sed | aslAcc | rolAcc | lsrAcc | rorAcc =>
    exact ⟨_, .alone (fun _ => rfl) fun _ _ => rfl⟩
  case oraIzx | oraZp | oraImm | oraIzy | oraZpx | andIzx | andZp | andImm | andIzy | andZpx | eorIzx | eorZp | eorImm
      | eorIzy | eorZpx | adcIzx | adcZp | adcImm | adcIzy | adcZpx | sbcIzx | sbcZp | sbcImm | sbcIzy | sbcZpx | cmpIzx
      | cmpZp | cmpImm | cmpIzy | cmpZpx | cpxImm | cpxZp | cpyImm | cpyZp | bitZp | ldaIzx | ldaZp | ldaImm | ldaIzy
      | ldaZpx | ldxImm | ldxZp | ldxZpy | ldyImm | ldyZp | ldyZpx | staIzx | staZp | staIzy | staZpx | stxZp | stxZpy
      | styZp | styZpx | incZp | incZpx | decZp | decZpx | aslZp | aslZpx | lsrZp | lsrZpx | rolZp | rolZpx | rorZp | rorZpx
      | bpl | bmi | bvc | bvs | bcc | bcs | bne | beq =>
    exact ⟨_, .withByte _ (fun _ _ => rfl) fun _ _ => rfl⟩
  case oraAbs | oraAby | oraAbx | andAbs | andAby | andAbx | eorAbs | eorAby | eorAbx | adcAbs | adcAby | adcAbx | sbcAbs
      | sbcAby | sbcAbx | cmpAbs | cmpAby | cmpAbx | cpxAbs | cpyAbs | bitAbs | ldaAbs | ldaAby | ldaAbx | ldxAbs | ldxAby
      | ldyAbs | ldyAbx | staAbs | staAby | staAbx | stxAbs | styAbs | incAbs | incAbx | decAbs | decAbx | aslAbs | aslAbx
      | lsrAbs | lsrAbx | rolAbs | rolAbx | rorAbs | rorAbx | jmpAbs | jmpInd | jsr =>
    exact ⟨_, .withWord _ (fun _ _ => rfl) fun _ _ => rfl⟩
  -- What is left are the 105 unsupported opcodes.
  all_goals exact ⟨_, .skipped (fun _ => rfl) (fun _ _ => rfl) rfl⟩

/-- The encoding of an instruction begins with the opcode byte of its form. -/
theorem EncodingForm.opcode_eq {op : Byte} {i : Instr} (h : EncodingForm op i) : i.opcode = op := by
  unfold Instr.opcode
  cases h with
  | alone encodes | withByte _ encodes | withWord _ encodes | skipped encodes => rw [encodes]; rfl

theorem encodingForm (i : Instr) : EncodingForm i.opcode i := by
  obtain ⟨op, h⟩ := exists_encodingForm i
  rwa [h.opcode_eq]

/-- The cells of the opcode matrix stand in the order of their opcode bytes (30 R95). -/
theorem opcodeMatrix_opcodes (b1 b2 : Byte) :
    (opcodeMatrix.map fun row => row.map fun cell => (cell b1 b2).opcode) =
      (List.range 16).map fun hi => (List.range 16).map fun lo => BitVec.ofNat 8 (16 * hi + lo) := rfl

/-- The entries of a list whose images are known by their index. -/
theorem exists_getElem?_of_map_eq {α β : Type} {f : α → β} {l : List α} {g : Nat → β} {n k : Nat}
    (h : l.map f = (List.range n).map g) (hk : k < n) : ∃ a, l[k]? = some a ∧ f a = g k := by
  have hentry : (l.map f)[k]? = ((List.range n).map g)[k]? := congrArg (·[k]?) h
  rwa [List.getElem?_map, List.getElem?_map, List.getElem?_range hk, Option.map_some, Option.map_eq_some_iff] at hentry

/-- The row of an opcode byte makes an instruction with that opcode byte (30 R93). -/
theorem decode3_opcode (op b1 b2 : Byte) : (decode3 op b1 b2).opcode = op := by
  obtain ⟨row, hrow, hcells⟩ := exists_getElem?_of_map_eq (opcodeMatrix_opcodes b1 b2) (k := op.toNat / 16) (by omega)
  obtain ⟨cell, hcell, hop⟩ := exists_getElem?_of_map_eq hcells (k := op.toNat % 16) (by omega)
  have hdecode : decode3 op b1 b2 = cell b1 b2 := by
    unfold decode3
    rw [List.getD_eq_getElem?_getD, List.getD_eq_getElem?_getD, hrow, Option.getD_some, hcell, Option.getD_some]
  rw [hdecode, hop, Nat.div_add_mod, BitVec.ofNat_toNat, BitVec.setWidth_eq]

theorem decode3_form (op b1 b2 : Byte) : EncodingForm op (decode3 op b1 b2) := by
  simpa only [decode3_opcode] using encodingForm (decode3 op b1 b2)

/-- Every instruction is what its row of the matrix makes of some two bytes. -/
theorem exists_decode3 (i : Instr) : ∃ b1 b2, decode3 i.opcode b1 b2 = i := by
  have h := encodingForm i
  generalize i.opcode = op at h
  cases h with
  | alone _ decodes | skipped _ decodes => exact ⟨0, 0, decodes 0 0⟩
  | withByte b _ decodes => exact ⟨b, 0, decodes b 0⟩
  | @withWord f w _ decodes =>
    exact ⟨loByte w, hiByte w, (decodes _ _).trans (congrArg f (wordOf_hiByte_loByte w))⟩

/-! ### Decoding an encoding -/

/-- A string of bytes is refused only where it ends before the bytes that the instruction's fetch reads. -/
theorem decode_cons {ul : ByteTable UnsupLength} {i : Instr} {op : Byte} {bytes : List Byte}
    (hrow : decode3 op (bytes.getD 0 0) (bytes.getD 1 0) = i) :
    decode ul (op :: bytes) =
      if bytes.length + 1 < i.fetched ul then .error (.truncated op) else .ok (i, bytes.drop (i.length ul - 1)) := by
  subst hrow
  rfl

/-- An instruction is decoded from its bytes if its row makes it of the two bytes after the opcode. -/
theorem decode_encode_of_row {ul : ByteTable UnsupLength} {i : Instr} {op : Byte} {operands rest : List Byte}
    (hcode : encode ul i = op :: operands)
    (hrow : decode3 op ((operands ++ rest).getD 0 0) ((operands ++ rest).getD 1 0) = i) :
    decode ul (encode ul i ++ rest) = .ok (i, rest) := by
  have hlen : i.length ul = operands.length + 1 := congrArg List.length hcode
  have hfetched : i.fetched ul ≤ i.length ul := by
    unfold Instr.fetched
    split <;> omega
  have henough : ¬ (operands ++ rest).length + 1 < i.fetched ul := by
    rw [List.length_append]
    omega
  rw [hcode, List.cons_append, decode_cons hrow, if_neg henough, hlen, Nat.add_sub_cancel, List.drop_left]

theorem EncodingForm.decode_encode {op : Byte} {i : Instr} (h : EncodingForm op i) (ul : ByteTable UnsupLength)
    (rest : List Byte) : decode ul (encode ul i ++ rest) = .ok (i, rest) := by
  cases h with
  | alone encodes decodes => exact decode_encode_of_row (encodes ul) (decodes _ _)
  | withByte b encodes decodes => exact decode_encode_of_row (encodes ul b) (decodes _ _)
  | @withWord f w encodes decodes =>
    exact decode_encode_of_row (encodes ul w) ((decodes _ _).trans (congrArg f (wordOf_hiByte_loByte w)))
  | skipped encodes decodes => exact decode_encode_of_row (encodes ul) (decodes _ _)

/-! ### Encoding what was decoded -/

/-- What a row of 30 R95 makes of two bytes is encoded as the opcode byte and the first of them, whatever UNSUP_LEN is. -/
theorem encode_decode3 {op : Byte} (hop : unsupportedByte op = false) (b1 b2 : Byte) :
    ∃ n, n ≤ 3 ∧ ∀ ul, encode ul (decode3 op b1 b2) = [op, b1, b2].take n := by
  obtain ⟨i, h⟩ : ∃ i, EncodingForm op i := ⟨_, decode3_form op 0 0⟩
  cases h with
  | alone encodes decodes => exact ⟨1, by decide, fun ul => by rw [decodes, encodes]; rfl⟩
  | withByte _ encodes decodes => exact ⟨2, by decide, fun ul => by rw [decodes, encodes]; rfl⟩
  | withWord _ encodes decodes =>
    exact ⟨3, by decide, fun ul => by rw [decodes, encodes, Machine.loByte_wordOf, Machine.hiByte_wordOf]; rfl⟩
  | skipped _ _ unsupported => rw [unsupported] at hop; cases hop

/-- The bytes of what a row of 30 R95 makes are the first of those it was decoded from. -/
theorem encode_decode3_eq_take {op : Byte} (hop : unsupportedByte op = false) (b1 b2 : Byte)
    (ul : ByteTable UnsupLength) :
    encode ul (decode3 op b1 b2) = [op, b1, b2].take ((decode3 op b1 b2).length ul) := by
  obtain ⟨n, hn, hcode⟩ := encode_decode3 hop b1 b2
  have hlen : (decode3 op b1 b2).length ul = n := by
    unfold Instr.length
    rw [hcode, List.length_take_of_le hn]
  rw [hlen, hcode]

/-- UNSUP_LEN does not enter into the length of a row of 30 R95. -/
theorem length_decode3_eq {op : Byte} (hop : unsupportedByte op = false) (b1 b2 : Byte) (ul ul' : ByteTable UnsupLength) :
    (decode3 op b1 b2).length ul = (decode3 op b1 b2).length ul' := by
  obtain ⟨_, _, hcode⟩ := encode_decode3 hop b1 b2
  unfold Instr.length
  rw [hcode, hcode]

/-- Settles O1, by the form of the instruction's encoding. -/
theorem decodeAndEncodeAgree : Obligations.DecodeAndEncodeAgree :=
  ⟨fun ul i rest _ => (encodingForm i).decode_encode ul rest,
    fun ul op b1 b2 => ⟨decode3_opcode op b1 b2, fun hop => encode_decode3_eq_take hop b1 b2 ul⟩⟩

/-! ### Words of the table -/

/-- A word whose bytes begin with the encoding of an instruction decodes to it. -/
theorem decodeTableWord_of_bytes {nbits w : Nat} {i : Instr} {rest : List Byte}
    (h : tableBytes nbits w = encode defaultUnsupLen i ++ rest) : decodeTableWord nbits w = some i := by
  unfold decodeTableWord
  rw [h, (encodingForm i).decode_encode]

/-- Settles O2: but for the last word, whose bytes after the unsupported opcode are not those of the encoder, each is an
encoding with unused bytes after it. -/
theorem sampleWordsDecode : Obligations.SampleWordsDecode :=
  ⟨decodeTableWord_of_bytes (rest := [0]) rfl, decodeTableWord_of_bytes (rest := []) rfl,
    decodeTableWord_of_bytes (rest := [0, 0]) rfl, decodeTableWord_of_bytes (rest := [0, 0]) rfl,
    decodeTableWord_of_bytes (rest := [0]) rfl, decodeTableWord_of_bytes (rest := [0]) rfl,
    decodeTableWord_of_bytes (rest := [0]) rfl, decodeTableWord_of_bytes (rest := [0, 0]) rfl,
    decodeTableWord_of_bytes (rest := [0]) rfl, decodeTableWord_of_bytes (rest := []) rfl,
    decodeTableWord_of_bytes (rest := []) rfl, decodeTableWord_of_bytes (rest := [0, 0]) rfl,
    decodeTableWord_of_bytes (rest := [0, 0]) rfl, rfl⟩

end Sys2Proof
end

section
/-! Cycle counts (30 R101), the step inside a burst (45 R221, 49 R339) and the addressing modes as numbers (30 R104 to R114). -/

namespace Sys2Proof.Machine

/-! ### Cycle counts -/

/-- The count that a step returns for an instruction (30 R101, 45 R222). -/
def cyclesOf (i : Instr) (s : State) : Nat :=
  if i.mnemonic = .unsupported then s.params.unsupCycles else s.params.cycles.entry i.opcode + extraCycles i s

@[simp] theorem State.push16_cycles (s : State) (w : Word) : (s.push16 w).cycles = s.cycles := by simp [State.push16]

/-- Every instruction returns that count: a store or a push after the fetch does not change it. -/
theorem exec_cycles (i : Instr) (s : State) : ∃ t, exec i s = .next t ∧ t.cycles = cyclesOf i s := by
  cases i
  case staIzx | staZp | staAbs | staIzy | staZpx | staAby | staAbx | stxZp | stxAbs | stxZpy | styZp | styAbs | styZpx
      | incZp | incAbs | incZpx | incAbx | decZp | decAbs | decZpx | decAbx | aslZp | aslAbs | aslZpx | aslAbx | lsrZp
      | lsrAbs | lsrZpx | lsrAbx | rolZp | rolAbs | rolZpx | rolAbx | rorZp | rorAbs | rorZpx | rorAbx =>
    exact ⟨_, rfl, State.memWrite_cycles ..⟩
  case pha | php => exact ⟨_, rfl, State.push_cycles ..⟩
  case jsr => exact ⟨_, rfl, State.push16_cycles ..⟩
  case brk => exact ⟨_, rfl, (State.push_cycles ..).trans (State.push16_cycles ..)⟩
  -- The others write neither memory nor the stack.
  all_goals exact ⟨_, rfl, rfl⟩

theorem unsupportedBytes_mnemonic (b1 b2 : Byte) :
    ∀ op ∈ unsupportedBytes, (decode3 op b1 b2).mnemonic = .unsupported :=
  List.map_inj_left (g := fun _ => Mnemonic.unsupported).mp rfl

/-- An instruction with a mnemonic has its opcode byte in 30 R95. -/
theorem unsupportedByte_eq_false {i : Instr} (h : i.mnemonic ≠ .unsupported) : unsupportedByte i.opcode = false := by
  obtain ⟨b1, b2, hrow⟩ := exists_decode3 i
  by_contra hop
  refine h (hrow ▸ unsupportedBytes_mnemonic b1 b2 i.opcode (List.contains_iff_mem.mp ?_))
  exact Bool.eq_true_of_not_eq_false hop

/-- CYCLES at its default is the `cyc` column, row by row (30 R95). -/
theorem defaultCycles_entry (op : Byte) (h : unsupportedByte op = false) :
    defaultCycles.entry op = cycleColumn.getD op.toNat 0 := by
  revert op
  decide

theorem entry_mem_rows {α : Type} (t : ByteTable α) (op : Byte) : ∃ row ∈ t.toList, t.entry op ∈ row.toList :=
  ⟨t[op.toNat / 16], by simp, by simp [ByteTable.entry]⟩

/-- With `cyclesOk` every count of CYCLES is at least 1, and so is UNSUP_CYCLES. -/
theorem one_le_of_cyclesOk {p : Params} (h : p.cyclesOk = true) :
    1 ≤ p.unsupCycles ∧ ∀ op, 1 ≤ p.cycles.entry op := by
  unfold Params.cyclesOk at h
  rw [Bool.and_eq_true, decide_eq_true_eq, List.all_eq_true] at h
  obtain ⟨hunsup, hrows⟩ := h
  refine ⟨hunsup, fun op => ?_⟩
  obtain ⟨row, hrow, hentry⟩ := entry_mem_rows p.cycles op
  exact of_decide_eq_true (List.all_eq_true.mp (hrows row hrow) _ hentry)

/-- Settles O3, from the count that every instruction returns. -/
theorem cycleCountsFollowTable : Obligations.CycleCountsFollowTable := by
  intro i s
  obtain ⟨t, hexec, hcycles⟩ := exec_cycles i s
  unfold cyclesOf at hcycles
  refine ⟨t, hexec, fun hm => ⟨hcycles.trans (if_neg hm), defaultCycles_entry _ (unsupportedByte_eq_false hm)⟩,
    fun hm => hcycles.trans (if_pos hm), fun hok => ?_⟩
  obtain ⟨hunsup, hentry⟩ := one_le_of_cyclesOk hok
  rw [hcycles]
  split
  · exact hunsup
  · exact (hentry i.opcode).trans (Nat.le_add_right _ _)

/-! ### The step inside a burst -/

/-- Before the sentinel and within the budget, the burst loop takes a step of the processor and then the guards (49 R339). -/
theorem step_of_burst {s t : State} {caller : Caller} {spIn : Byte} {used : Nat} (htask : s.task = .burst caller spIn used)
    (hpc : s.pc ≠ s.params.sentinelPC) (hused : used < s.params.maxCycles) (hcpu : s.cpuStep = .next t) :
    step s = .next (t.guardBurst caller spIn (used + t.cycles) s.pc) := by
  unfold step State.subStep
  rw [htask]
  dsimp only
  unfold State.burstStep
  rw [if_neg hpc, if_neg (Nat.not_le.mpr hused), hcpu]

theorem cpuStep_of_dropped {s : State} (h : s.params.dropped.contains (s.memRead s.pc) = true) :
    s.cpuStep =
      .next (s.skipUnsupported (s.memRead s.pc) ((decode3 (s.memRead s.pc) 0 0).length s.params.unsupLen)) :=
  if_pos h

theorem cpuStep_of_supported {s : State} (h : s.params.dropped.contains (s.memRead s.pc) = false) :
    s.cpuStep = exec s.fetchInstr s :=
  if_neg (Bool.not_eq_true _ ▸ h)

/-- The instruction at `PC` is what the bytes there decode to. -/
theorem fetchInstr_of_decode {s : State} {ul : ByteTable UnsupLength} {i : Instr} {rest : List Byte}
    (h : decode ul [s.memRead s.pc, s.memRead (s.pc + 1), s.memRead (s.pc + 2)] = .ok (i, rest)) : s.fetchInstr = i := by
  rw [decode_cons (i := s.fetchInstr) rfl] at h
  split at h
  · cases h
  · exact congrArg Prod.fst (Except.ok.inj h)

/-- Settles O4: the bytes at `PC` are those that the fetch decodes. -/
theorem stepRunsDecodedInstruction : Obligations.StepRunsDecodedInstruction := by
  intro s caller spIn used i rest htask hpc hused hkept hdecode _
  obtain ⟨t, hexec⟩ := exec_answers i s
  refine ⟨t, hexec, step_of_burst htask hpc hused ?_⟩
  rw [cpuStep_of_supported hkept, fetchInstr_of_decode hdecode, hexec]

/-- Settles O5: an opcode of 30 R95 has the length of its row for every UNSUP_LEN. -/
theorem leftOutOpcodeIsSkipped : Obligations.LeftOutOpcodeIsSkipped := by
  intro s caller spIn used htask hpc hused hleft hrow
  have hcpu := cpuStep_of_dropped hleft
  rw [length_decode3_eq hrow 0 0 s.params.unsupLen defaultUnsupLen] at hcpu
  exact step_of_burst htask hpc hused hcpu

/-! ### Addresses as numbers -/

theorem zext16_toNat (b : Byte) : (zext16 b).toNat = b.toNat := BitVec.toNat_setWidth_of_le (by decide)

/-- An indexed address: the sum modulo 65536 (30 R109, R110). -/
theorem add_zext16_toNat (base : Word) (b : Byte) : (base + zext16 b).toNat = (base.toNat + b.toNat) % 65536 := by
  rw [BitVec.toNat_add, zext16_toNat]

/-- An indexed address in the zero page: the sum modulo 256 (30 R105, R106). -/
theorem zext16_add_toNat (a b : Byte) : (zext16 (a + b)).toNat = (a.toNat + b.toNat) % 256 := by
  rw [zext16_toNat, BitVec.toNat_add]

/-- The number of an address is its page times 256 and its offset in the page. -/
theorem hiByte_toNat (w : Word) : (hiByte w).toNat = w.toNat / 256 := by
  have hw := wordOf_toNat (hiByte w) (loByte w)
  rw [wordOf_hiByte_loByte] at hw
  omega

/-- The page-crossing cycle compares the pages as numbers (30 R101). -/
theorem State.penalty_eq (s : State) (a b : Word) :
    s.penalty a b = if s.params.pagePenalty = true ∧ a.toNat / 256 ≠ b.toNat / 256 then 1 else 0 := by
  unfold State.penalty pageCrossed
  simp only [Bool.and_eq_true, decide_eq_true_eq, ne_eq, BitVec.toNat_inj.symm, hiByte_toNat]

/-- A sign-extended byte as a number is the signed byte modulo 65536 (00 R9). -/
theorem sext16_toNat (b : Byte) : ((sext16 b).toNat : Int) = b.toInt % 65536 := by
  have hsigned : (sext16 b).toInt = b.toInt := BitVec.toInt_signExtend_of_le (by decide)
  rw [← hsigned, BitVec.toInt_eq_toNat_cond]
  split <;> omega

/-- The target of a branch is the signed offset from the next instruction, modulo 65536 (30 R111). -/
theorem State.branchTarget_toNat (s : State) (off : Byte) :
    ((s.branchTarget off).toNat : Int) = ((s.pc.toNat : Int) + 2 + off.toInt) % 65536 := by
  unfold State.branchTarget State.branchNext
  rw [BitVec.toNat_add, BitVec.toNat_add]
  have hoff := sext16_toNat off
  have htwo : (2 : Word).toNat = 2 := rfl
  omega

/-- Settles O24, mode by mode. -/
theorem addressingModesWrapAsStated : Obligations.AddressingModesWrapAsStated := by
  intro s b b1 b2 base
  refine ⟨wordOf_toNat b2 b1, zext16_toNat b, zext16_add_toNat b s.x, zext16_add_toNat b s.y,
    add_zext16_toNat base s.x, add_zext16_toNat base s.y, rfl, rfl, s.branchTarget_toNat b, s.indTarget_wordOf b1 b2,
    fun a => s.penalty_eq base a⟩

end Sys2Proof.Machine
end

section
/-! Loads, stores and register transfers (40 R120 to R131). -/

namespace Sys2Proof.Machine

/-! ### What an instruction of each kind answers -/

section
variable {s t : State} {i : Instr} {op : Byte} {operands : List Byte} {base extra : Nat}

/-- An instruction that moves a value into a register and sets N and Z from it; `t` is the state with the register moved. -/
theorem answers_setsNZ {v : Byte} (hcode : encode s.params.unsupLen i = op :: operands)
    (hbase : defaultCycles.entry op = base)
    (hexec : exec i s =
      .next
        { t with
          p := setNZ v s.p
          pc := s.pc + BitVec.ofNat 16 (operands.length + 1)
          cycles := s.params.cycles.entry op + extra }) :
    Answers s i op operands base extra (SetsNZ v) t :=
  ⟨hcode, hbase, setNZ v s.p, setNZ_setsNZ v s.p, hexec⟩

/-- An instruction that stores a value and does nothing else: the fetch before the write hook's call does not change what
the call writes. -/
theorem answers_memWrite {ea : Word} {v : Byte} (hcode : encode s.params.unsupLen i = op :: operands)
    (hbase : defaultCycles.entry op = base)
    (hexec : exec i s = .next ((s.retire (BitVec.ofNat 16 (operands.length + 1)) op 0).memWrite ea v)) :
    Answers s i op operands base 0 KeepsStatus (s.memWrite ea v) := by
  refine ⟨hcode, hbase, s.p, rfl, ?_⟩
  rw [hexec, State.memWrite_retire]
  simp [State.retire]

end

/-! ### The instructions -/

/-- Settles O7: every form moves its operand into the register and sets N and Z from it. -/
theorem loadsComplete : Obligations.LoadsComplete := by
  intro s m zp addr base
  refine ⟨?ldaIzx, ?ldaZp, ?ldaImm, ?ldaAbs, ?ldaIzy, ?ldaZpx, ?ldaAby, ?ldaAbx, ?ldxImm, ?ldxZp, ?ldxAbs, ?ldxZpy,
    ?ldxAby, ?ldyImm, ?ldyZp, ?ldyAbs, ?ldyZpx, ?ldyAbx⟩
  case ldaIzx | ldaZp | ldaImm | ldaAbs | ldaIzy | ldaZpx | ldaAby | ldaAbx => exact answers_setsNZ rfl rfl rfl
  case ldxImm | ldxZp | ldxAbs | ldxZpy | ldxAby => exact answers_setsNZ rfl rfl rfl
  case ldyImm | ldyZp | ldyAbs | ldyZpx | ldyAbx => exact answers_setsNZ rfl rfl rfl

/-- Settles O8: every form is one call of the write hook after the fetch. -/
theorem storesComplete : Obligations.StoresComplete := by
  intro s zp addr base
  refine ⟨?staIzx, ?staZp, ?staAbs, ?staIzy, ?staZpx, ?staAby, ?staAbx, ?stxZp, ?stxAbs, ?stxZpy, ?styZp, ?styAbs,
    ?styZpx⟩
  case staIzx | staZp | staAbs | staIzy | staZpx | staAby | staAbx => exact answers_memWrite rfl rfl rfl
  case stxZp | stxAbs | stxZpy => exact answers_memWrite rfl rfl rfl
  case styZp | styAbs | styZpx => exact answers_memWrite rfl rfl rfl

/-- Settles O9: all transfers but TXS set N and Z from the value; TXS keeps the status. -/
theorem transfersComplete : Obligations.TransfersComplete := by
  intro s
  refine ⟨?tax, ?tay, ?txa, ?tya, ?tsx, ?txs⟩
  case tax | tay | txa | tya | tsx => exact answers_setsNZ rfl rfl rfl
  case txs => exact ⟨rfl, rfl, s.p, rfl, rfl⟩

end Sys2Proof.Machine
end

section
/-! The stack on the default map (41 R140 to R143). -/

namespace Sys2Proof.Machine

/-- A stack address `0x0100 | SP` as a word of two bytes: page 1, offset SP. Two bytes are joined by this very `or`. -/
theorem pageOne_or_zext16 (sp : Byte) : (0x0100 : Word) ||| zext16 sp = wordOf 0x01 sp := rfl

section
variable {s : State}

/-- On the default map the stack is page 1. -/
theorem State.stackAddr_toNat (h : DefaultMap s.params) (sp : Byte) : (s.stackAddr sp).toNat = 256 + sp.toNat := by
  obtain ⟨hpage, _, _⟩ := h
  unfold State.stackAddr
  rw [hpage, pageOne_or_zext16, wordOf_toNat]
  rfl

/-- On the default map no stack byte is in the register window. -/
theorem State.stackAddr_outside (h : DefaultMap s.params) (sp : Byte) :
    windowOffset s.params (s.stackAddr sp) = none := by
  have haddr := State.stackAddr_toNat h sp
  obtain ⟨_, hbase, _⟩ := h
  have hwin : s.params.winBase.toNat = 0xD400 := congrArg BitVec.toNat hbase
  refine windowOffset_eq_none.mpr fun o _ => ?_
  omega

theorem State.memRead_stackAddr (h : DefaultMap s.params) (sp : Byte) :
    s.memRead (s.stackAddr sp) = s.mem.read (256 + sp.toNat) := by
  rw [memRead_of_outside (stackAddr_outside h sp), stackAddr_toNat h]

theorem State.memWrite_stackAddr (h : DefaultMap s.params) (sp v : Byte) :
    s.memWrite (s.stackAddr sp) v = { s with mem := s.mem.write (256 + sp.toNat) v } := by
  rw [memWrite_of_outside (stackAddr_outside h sp), stackAddr_toNat h]

theorem State.push_of_defaultMap (h : DefaultMap s.params) (b : Byte) :
    s.push b = { s with mem := s.mem.write (256 + s.sp.toNat) b, sp := s.sp - 1 } := by
  unfold State.push
  rw [memWrite_stackAddr h]
  rfl

/-- The second push of `Push16` stands on the state after the first, which has the same map. -/
theorem State.push16_of_defaultMap (h : DefaultMap s.params) (w : Word) :
    s.push16 w =
      { s with
        mem := (s.mem.write (256 + s.sp.toNat) (hiByte w)).write (256 + (s.sp - 1).toNat) (loByte w)
        sp := s.sp - 2 } := by
  have hmap : DefaultMap (s.push (hiByte w)).params := by rwa [push_params]
  unfold State.push16
  rw [push_of_defaultMap hmap, push_of_defaultMap h, byte_sub_one_sub_one]

theorem State.pop16Value_of_defaultMap (h : DefaultMap s.params) :
    s.pop16Value = wordOf (s.mem.read (256 + (s.sp + 2).toNat)) (s.mem.read (256 + (s.sp + 1).toNat)) := by
  rw [← memRead_stackAddr h, ← memRead_stackAddr h]
  exact s.pop16Value_eq

end

/-- Settles O23: each push is one write to page 1, each pop one read of it. -/
theorem stackPrimitivesUsePageOne : Obligations.StackPrimitivesUsePageOne := by
  intro s b w h
  exact ⟨State.push_of_defaultMap h b, State.memRead_stackAddr h _, rfl, State.push16_of_defaultMap h w,
    State.pop16Value_of_defaultMap h, s.popped16_eq⟩

end Sys2Proof.Machine
end

section
/-! The arithmetic, compare, increment and decrement instructions (42 R151 to R162). -/

namespace Sys2Proof.Machine

/-! ### A flag after the updates of other flags -/

@[simp] theorem flagC_putV (b : Bool) (p : Byte) : flagC (putV b p) = flagC p := putBits_getLsbD _ b p 0 (by decide)
@[simp] theorem flagC_putZ (b : Bool) (p : Byte) : flagC (putZ b p) = flagC p := putBits_getLsbD _ b p 0 (by decide)
@[simp] theorem flagC_putN (b : Bool) (p : Byte) : flagC (putN b p) = flagC p := putBits_getLsbD _ b p 0 (by decide)
@[simp] theorem flagZ_putN (b : Bool) (p : Byte) : flagZ (putN b p) = flagZ p := putBits_getLsbD _ b p 1 (by decide)
@[simp] theorem flagC_setNZ (v p : Byte) : flagC (setNZ v p) = flagC p := setNZ_getLsbD v p 0 (by decide)
@[simp] theorem flagV_setNZ (v p : Byte) : flagV (setNZ v p) = flagV p := setNZ_getLsbD v p 6 (by decide)

/-- A status kept outside `sub` is kept outside any larger mask. -/
theorem KeepsBits.mono {sub mask p q : Byte} (h : KeepsBits sub p q) (hsub : sub &&& ~~~mask = 0) : KeepsBits mask p q :=
  h.and_eq hsub

/-! ### The sum of ADC as a number -/

theorem adcSum_toNat (a m : Byte) (c : Bool) : (adcSum a m c).toNat = a.toNat + m.toNat + c.toNat := by
  have ha := a.isLt
  have hm := m.isLt
  have hc := c.toNat_lt
  simp only [adcSum, BitVec.toNat_add, BitVec.toNat_setWidth, BitVec.toNat_ofBool]
  omega

theorem adcResult_toNat (a m : Byte) (c : Bool) : (adcResult a m c).toNat = (a.toNat + m.toNat + c.toNat) % 256 := by
  rw [adcResult, BitVec.extractLsb'_toNat, adcSum_toNat, Nat.shiftRight_zero]

/-- Bit 8 of the sum is set from 256 on: the sum is below 512. -/
theorem adcCarry_eq (a m : Byte) (c : Bool) : adcCarry a m c = decide (256 ≤ a.toNat + m.toNat + c.toNat) := by
  rw [adcCarry, ← adcSum_toNat]
  exact BitVec.msb_eq_decide (adcSum a m c)

/-- What SBC adds in place of its operand (42 R152). -/
theorem complement_toNat (m : Byte) : (m ^^^ 0xFF).toNat = 255 - m.toNat := by
  have hnot : m ^^^ 0xFF = ~~~m := BitVec.xor_allOnes
  rw [hnot, BitVec.toNat_not]

/-! ### The status after ADC, SBC and the comparisons -/

theorem flagC_adcStatus (a m p : Byte) : flagC (adcStatus a m p) = adcCarry a m (flagC p) := by simp [adcStatus]

theorem flagV_adcStatus (a m p : Byte) : flagV (adcStatus a m p) = adcOverflow a m (flagC p) := by simp [adcStatus]

theorem adcStatus_addsWithCarry (a m p : Byte) :
    AddsWithCarry a m p (adcResult a m (flagC p)) (adcStatus a m p) := by
  obtain ⟨hn, hz, hnz⟩ := setNZ_setsNZ (adcResult a m (flagC p))
    (putV (adcOverflow a m (flagC p)) (putC (adcCarry a m (flagC p)) p))
  have hc : KeepsBits 0xC3 p (putC (adcCarry a m (flagC p)) p) := putBits_keepsBits (by decide) _ _
  have hv : KeepsBits 0xC3 (putC (adcCarry a m (flagC p)) p)
      (putV (adcOverflow a m (flagC p)) (putC (adcCarry a m (flagC p)) p)) := putBits_keepsBits (by decide) _ _
  exact ⟨adcResult_toNat a m (flagC p), (flagC_adcStatus a m p).trans (adcCarry_eq a m (flagC p)), flagV_adcStatus a m p,
    hn, hz, (hnz.mono (by decide)).trans (hv.trans hc)⟩

/-- Adding the complement subtracts: no carry out of the sum is a borrow. -/
theorem adcStatus_subtractsWithBorrow (a m p : Byte) :
    SubtractsWithBorrow a m p (adcResult a (m ^^^ 0xFF) (flagC p)) (adcStatus a (m ^^^ 0xFF) p) := by
  obtain ⟨hr, hc, hflags⟩ := adcStatus_addsWithCarry a (m ^^^ 0xFF) p
  rw [complement_toNat] at hr hc
  have hm := m.isLt
  have hcarry := (flagC p).toNat_lt
  refine ⟨hr.trans ?_, hc.trans (decide_eq_decide.mpr ?_), hflags⟩ <;> omega

theorem compareStatus_compares (r m p : Byte) : Compares r m p (compareStatus r m p) := by
  have hc : KeepsBits 0x83 p (putC (decide (m ≤ r)) p) := putBits_keepsBits (by decide) _ _
  have hz : KeepsBits 0x83 (putC (decide (m ≤ r)) p) (putZ (decide (r = m)) (putC (decide (m ≤ r)) p)) :=
    putBits_keepsBits (by decide) _ _
  have hn : KeepsBits 0x83 (putZ (decide (r = m)) (putC (decide (m ≤ r)) p)) (compareStatus r m p) :=
    putBits_keepsBits (by decide) _ _
  refine ⟨?_, ?_, flagN_putN _ _, hn.trans (hz.trans hc)⟩
  · simp [compareStatus, BitVec.le_def]
  · simp [compareStatus]

/-! ### What an instruction of each kind answers -/

section
variable {s : State} {i : Instr} {op m r v : Byte} {operands : List Byte} {base extra : Nat} {ea : Word}

theorem answersSum_adc (hcode : encode s.params.unsupLen i = op :: operands) (hbase : defaultCycles.entry op = base)
    (hexec : exec i s = .next ((s.retire (BitVec.ofNat 16 (operands.length + 1)) op extra).adc m)) :
    AnswersSum s i op operands base extra (AddsWithCarry s.a m) :=
  ⟨hcode, hbase, _, _, adcStatus_addsWithCarry s.a m s.p, hexec⟩

theorem answersSum_sbc (hcode : encode s.params.unsupLen i = op :: operands) (hbase : defaultCycles.entry op = base)
    (hexec : exec i s = .next ((s.retire (BitVec.ofNat 16 (operands.length + 1)) op extra).sbc m)) :
    AnswersSum s i op operands base extra (SubtractsWithBorrow s.a m) :=
  ⟨hcode, hbase, _, _, adcStatus_subtractsWithBorrow s.a m s.p, hexec⟩

/-- A comparison of the register value `r` with `m` writes the status alone. -/
theorem answers_compares (hcode : encode s.params.unsupLen i = op :: operands) (hbase : defaultCycles.entry op = base)
    (hexec : exec i s =
      .next ((s.retire (BitVec.ofNat 16 (operands.length + 1)) op extra).setP (compareStatus r m s.p))) :
    Answers s i op operands base extra (Compares r m) s :=
  ⟨hcode, hbase, _, compareStatus_compares r m s.p, hexec⟩

/-- An instruction that stores `v` at `ea` and puts the status that `rule` allows. -/
theorem answers_memWrite_setP {rule : Byte → Byte → Prop} {q : Byte} (hrule : rule s.p q)
    (hcode : encode s.params.unsupLen i = op :: operands) (hbase : defaultCycles.entry op = base)
    (hexec : exec i s =
      .next (((s.retire (BitVec.ofNat 16 (operands.length + 1)) op 0).memWrite ea v).setP q)) :
    Answers s i op operands base 0 rule (s.memWrite ea v) := by
  refine ⟨hcode, hbase, q, hrule, ?_⟩
  rw [hexec, State.memWrite_retire]
  simp [State.retire, State.setP]

end

/-! ### The instructions -/

/-- Settles O11: SBC is ADC of the complement of its operand. -/
theorem addSubtractComplete : Obligations.AddSubtractComplete := by
  intro s m zp addr base
  refine ⟨?adcIzx, ?adcZp, ?adcImm, ?adcAbs, ?adcIzy, ?adcZpx, ?adcAby, ?adcAbx, ?sbcIzx, ?sbcZp, ?sbcImm, ?sbcAbs,
    ?sbcIzy, ?sbcZpx, ?sbcAby, ?sbcAbx⟩
  case adcIzx | adcZp | adcImm | adcAbs | adcIzy | adcZpx | adcAby | adcAbx => exact answersSum_adc rfl rfl rfl
  case sbcIzx | sbcZp | sbcImm | sbcAbs | sbcIzy | sbcZpx | sbcAby | sbcAbx => exact answersSum_sbc rfl rfl rfl

/-- Settles O12: every form writes the status of its comparison and no register. -/
theorem comparesComplete : Obligations.ComparesComplete := by
  intro s m zp addr base
  refine ⟨?cmpIzx, ?cmpZp, ?cmpImm, ?cmpAbs, ?cmpIzy, ?cmpZpx, ?cmpAby, ?cmpAbx, ?cpxImm, ?cpxZp, ?cpxAbs, ?cpyImm,
    ?cpyZp, ?cpyAbs⟩
  case cmpIzx | cmpZp | cmpImm | cmpAbs | cmpIzy | cmpZpx | cmpAby | cmpAbx => exact answers_compares rfl rfl rfl
  case cpxImm | cpxZp | cpxAbs => exact answers_compares rfl rfl rfl
  case cpyImm | cpyZp | cpyAbs => exact answers_compares rfl rfl rfl

/-- Settles O13: the forms in memory are one write of the changed byte, those of X and Y a move into the register. -/
theorem incrementsDecrementsComplete : Obligations.IncrementsDecrementsComplete := by
  intro s zp addr base
  refine ⟨?incZp, ?incAbs, ?incZpx, ?incAbx, ?decZp, ?decAbs, ?decZpx, ?decAbx, ?inx, ?iny, ?dex, ?dey⟩
  case incZp | incAbs | incZpx | incAbx | decZp | decAbs | decZpx | decAbx =>
    exact answers_memWrite_setP (setNZ_setsNZ _ s.p) rfl rfl rfl
  case inx | iny | dex | dey => exact answers_setsNZ rfl rfl rfl

/-! ### The overflow as a signed outcome -/

theorem bit7_eq_decide (b : Byte) : b.getLsbD 7 = decide (128 ≤ b.toNat) := BitVec.msb_eq_decide b

theorem byte_toInt_eq (b : Byte) : b.toInt = if 128 ≤ b.toNat then (b.toNat : Int) - 256 else b.toNat := by
  rw [BitVec.toInt_eq_toNat_cond]
  split <;> split <;> omega

/-- The operands have one sign and the result has the other. -/
theorem adcOverflow_iff_signs (a m : Byte) (c : Bool) :
    adcOverflow a m c = true ↔
      (128 ≤ a.toNat ↔ 128 ≤ m.toNat) ∧ ¬ (128 ≤ a.toNat ↔ 128 ≤ (adcResult a m c).toNat) := by
  have hbits : adcOverflow a m c =
      (!(a.getLsbD 7 ^^ m.getLsbD 7) && (a.getLsbD 7 ^^ (adcResult a m c).getLsbD 7)) := by simp [adcOverflow]
  rw [hbits, bit7_eq_decide, bit7_eq_decide, bit7_eq_decide]
  simp

/-- The sign of the result is wrong just when the signed sum does not fit into a byte (42 R162). -/
theorem adcOverflow_iff_signed (a m : Byte) (c : Bool) :
    adcOverflow a m c = true ↔ a.toInt + m.toInt + c.toNat < -128 ∨ 127 < a.toInt + m.toInt + c.toNat := by
  rw [adcOverflow_iff_signs, adcResult_toNat, byte_toInt_eq, byte_toInt_eq]
  have ha := a.isLt
  have hm := m.isLt
  have hc := c.toNat_lt
  split <;> split <;> omega

/-- The complement is the negation less one, as signed numbers. -/
theorem complement_toInt (m : Byte) : (m ^^^ 0xFF).toInt = -m.toInt - 1 := by
  have hm := m.isLt
  rw [byte_toInt_eq, byte_toInt_eq, complement_toNat]
  split <;> split <;> omega

/-- Settles O25: V of ADC is the overflow of the signed sum, and SBC adds the complement. -/
theorem overflowIsSigned : Obligations.OverflowIsSigned := by
  intro a m p
  refine ⟨?_, ?_⟩
  · rw [flagV_adcStatus]
    exact adcOverflow_iff_signed a m (flagC p)
  · rw [flagV_adcStatus, adcOverflow_iff_signed, complement_toInt]
    omega

end Sys2Proof.Machine
end

section
/-! The logic instructions, BIT, the shifts and the rotates (43 R170 to R177). -/

namespace Sys2Proof.Machine

/-! ### The status after BIT and the shifts -/

@[simp] theorem flagV_putN (b : Bool) (p : Byte) : flagV (putN b p) = flagV p := putBits_getLsbD _ b p 6 (by decide)
@[simp] theorem flagZ_putV (b : Bool) (p : Byte) : flagZ (putV b p) = flagZ p := putBits_getLsbD _ b p 1 (by decide)

theorem bitStatus_testsBits (a m p : Byte) : TestsBits a m p (bitStatus a m p) := by
  have hz : KeepsBits 0xC2 p (putZ (decide (a &&& m = 0)) p) := putBits_keepsBits (by decide) _ _
  have hv : KeepsBits 0xC2 (putZ (decide (a &&& m = 0)) p) (putV (m.getLsbD 6) (putZ (decide (a &&& m = 0)) p)) :=
    putBits_keepsBits (by decide) _ _
  have hn : KeepsBits 0xC2 (putV (m.getLsbD 6) (putZ (decide (a &&& m = 0)) p)) (bitStatus a m p) :=
    putBits_keepsBits (by decide) _ _
  exact ⟨by simp [bitStatus], flagN_putN _ _, by simp [bitStatus], hn.trans (hv.trans hz)⟩

/-- SetNZ of the result after the bit moved out was put into C. -/
theorem setNZ_putC_shifts (r : Byte) (out : Bool) (p : Byte) : Shifts r out p (setNZ r (putC out p)) := by
  obtain ⟨hn, hz, hnz⟩ := setNZ_setsNZ r (putC out p)
  have hc : KeepsBits 0x83 p (putC out p) := putBits_keepsBits (by decide) _ _
  have hout : flagC (setNZ r (putC out p)) = out := (flagC_setNZ r _).trans (flagC_putC out p)
  exact ⟨hout, hn, hz, (hnz.mono (by decide)).trans hc⟩

theorem leftStatus_shifts (v r p : Byte) : Shifts r (v.getLsbD 7) p (leftStatus v r p) := setNZ_putC_shifts r _ p

theorem rightStatus_shifts (v r p : Byte) : Shifts r (v.getLsbD 0) p (rightStatus v r p) := setNZ_putC_shifts r _ p

/-! ### The carry moved in by a rotate -/

/-- ROL moves the carry into bit 0. -/
theorem rolResult_eq (c : Bool) (v : Byte) : rolResult c v = (v <<< 1) ||| if c then 0x01 else 0x00 := by
  cases c <;> rfl

/-- ROR moves the carry into bit 7. -/
theorem rorResult_eq (c : Bool) (v : Byte) : rorResult c v = (v >>> 1) ||| if c then 0x80 else 0x00 := by
  cases c <;> rfl

/-! ### The instructions -/

/-- Settles O14: AND, ORA and EOR load their result into A; BIT writes the status alone. -/
theorem logicComplete : Obligations.LogicComplete := by
  intro s m zp addr base
  refine ⟨?andIzx, ?andZp, ?andImm, ?andAbs, ?andIzy, ?andZpx, ?andAby, ?andAbx, ?oraIzx, ?oraZp, ?oraImm, ?oraAbs,
    ?oraIzy, ?oraZpx, ?oraAby, ?oraAbx, ?eorIzx, ?eorZp, ?eorImm, ?eorAbs, ?eorIzy, ?eorZpx, ?eorAby, ?eorAbx, ?bitZp,
    ?bitAbs⟩
  case andIzx | andZp | andImm | andAbs | andIzy | andZpx | andAby | andAbx => exact answers_setsNZ rfl rfl rfl
  case oraIzx | oraZp | oraImm | oraAbs | oraIzy | oraZpx | oraAby | oraAbx => exact answers_setsNZ rfl rfl rfl
  case eorIzx | eorZp | eorImm | eorAbs | eorIzy | eorZpx | eorAby | eorAbx => exact answers_setsNZ rfl rfl rfl
  case bitZp | bitAbs => exact ⟨rfl, rfl, _, bitStatus_testsBits s.a _ s.p, rfl⟩

/-- Settles O15: the forms in memory are one write of the moved byte, those of A a move into A; to the left bit 7 goes to
the carry, to the right bit 0. -/
theorem shiftsRotatesComplete : Obligations.ShiftsRotatesComplete := by
  intro s zp addr base
  simp only [← rolResult_eq, ← rorResult_eq]
  refine ⟨?aslZp, ?aslAcc, ?aslAbs, ?aslZpx, ?aslAbx, ?lsrZp, ?lsrAcc, ?lsrAbs, ?lsrZpx, ?lsrAbx, ?rolZp, ?rolAcc, ?rolAbs,
    ?rolZpx, ?rolAbx, ?rorZp, ?rorAcc, ?rorAbs, ?rorZpx, ?rorAbx⟩
  case aslZp | aslAbs | aslZpx | aslAbx | rolZp | rolAbs | rolZpx | rolAbx =>
    exact answers_memWrite_setP (leftStatus_shifts _ _ s.p) rfl rfl rfl
  case lsrZp | lsrAbs | lsrZpx | lsrAbx | rorZp | rorAbs | rorZpx | rorAbx =>
    exact answers_memWrite_setP (rightStatus_shifts _ _ s.p) rfl rfl rfl
  case aslAcc | rolAcc => exact ⟨rfl, rfl, _, leftStatus_shifts s.a _ s.p, rfl⟩
  case lsrAcc | rorAcc => exact ⟨rfl, rfl, _, rightStatus_shifts s.a _ s.p, rfl⟩

end Sys2Proof.Machine
end

section
/-! Branches (44 R190 to R198), and the returns that find the frame of their call (44 R201 to R203, 60 R375). -/

namespace Sys2Proof.Machine

/-! ### Branches -/

/-- The page cycle counts only for a branch taken, and compares the two pages in either order (30 R101, 44 R190). -/
theorem State.branchCycles_eq (s : State) (taken : Bool) (off : Byte) :
    s.branchCycles taken off =
      if taken then
        (if s.params.pagePenalty = true ∧ hiByte (s.pc + 2 + sext16 off) ≠ hiByte (s.pc + 2) then 2 else 1)
      else 0 := by
  unfold State.branchCycles State.penalty pageCrossed State.branchTarget State.branchNext
  simp only [Bool.and_eq_true, decide_eq_true_eq, ne_comm (a := hiByte (s.pc + 2))]
  split_ifs <;> rfl

theorem answersBranch {s : State} {i : Instr} {op off : Byte} {taken : Bool}
    (hcode : encode s.params.unsupLen i = [op, off]) (hbase : defaultCycles.entry op = 2)
    (hexec : exec i s = .next (s.branch op taken off)) : AnswersBranch s i op off taken := by
  refine ⟨hcode, hbase, ?_⟩
  rw [hexec, State.branch, State.branchCycles_eq]
  rfl

/-- Settles O16: every branch is the common rule of R190 with its own flag. -/
theorem branchesComplete : Obligations.BranchesComplete := by
  intro s off
  refine ⟨?bcc, ?bcs, ?beq, ?bmi, ?bne, ?bpl, ?bvc, ?bvs⟩
  case bcc | bcs | beq | bmi | bne | bpl | bvc | bvs => exact answersBranch rfl rfl rfl

/-! ### A pop undoes a push -/

@[simp] theorem State.push16_params (s : State) (w : Word) : (s.push16 w).params = s.params := by simp [State.push16]

section
variable {s : State}

/-- On the default map distinct stack pointers name distinct addresses. -/
theorem State.stackAddr_ne (h : DefaultMap s.params) {sp sp' : Byte} (hne : sp ≠ sp') :
    s.stackAddr sp ≠ s.stackAddr sp' := by
  intro heq
  have hnat : 256 + sp.toNat = 256 + sp'.toNat := by rw [← stackAddr_toNat h, ← stackAddr_toNat h, heq]
  exact hne (BitVec.eq_of_toNat_eq (Nat.add_left_cancel hnat))

/-- A stack byte reads back; it is outside the window, so the shadow bytes' form does not matter. -/
theorem State.memRead_memWrite_stackAddr (h : DefaultMap s.params) (hwf : s.mem.wf = true) (sp v : Byte) :
    (s.memWrite (s.stackAddr sp) v).memRead (s.stackAddr sp) = v := by
  have hmap : DefaultMap (s.memWrite (s.stackAddr sp) v).params := by rwa [memWrite_params]
  have haddr : s.stackAddr sp = (s.memWrite (s.stackAddr sp) v).stackAddr sp := by
    rw [State.stackAddr, State.stackAddr, memWrite_params]
  calc (s.memWrite (s.stackAddr sp) v).memRead (s.stackAddr sp)
      = (s.memWrite (s.stackAddr sp) v).mem.read (256 + sp.toNat) := by rw [← memRead_stackAddr hmap, ← haddr]
    _ = (s.mem.write (256 + sp.toNat) v).read (256 + sp.toNat) := by rw [memWrite_stackAddr h]
    _ = v := Memory.read_write_self _ _ _ hwf

theorem State.popValue_push (h : DefaultMap s.params) (hwf : s.mem.wf = true) (b : Byte) :
    (s.push b).popValue = b := by
  rw [popValue_eq, push_params, push_sp, BitVec.sub_add_cancel]
  exact memRead_memWrite_stackAddr h hwf s.sp b

/-- A push and a pop leave the written byte, below the stack. -/
theorem State.popped_push (s : State) (b : Byte) : (s.push b).popped = s.memWrite (s.stackAddr s.sp) b := by
  have hsp : s.sp - 1 + 1 = (s.memWrite (s.stackAddr s.sp) b).sp := by rw [BitVec.sub_add_cancel, memWrite_sp]
  calc (s.push b).popped = (s.memWrite (s.stackAddr s.sp) b).setSP (s.sp - 1 + 1) := rfl
    _ = (s.memWrite (s.stackAddr s.sp) b).setSP (s.memWrite (s.stackAddr s.sp) b).sp := by rw [hsp]
    _ = s.memWrite (s.stackAddr s.sp) b := rfl

/-- A write below the stack is not what a pop reads. -/
theorem State.popValue_memWrite_below (h : DefaultMap s.params) (b : Byte) :
    (s.memWrite (s.stackAddr s.sp) b).popValue = s.popValue := by
  rw [popValue_eq, memWrite_params, memWrite_sp]
  exact memRead_memWrite_of_ne s b (stackAddr_ne h (by bv_omega))

/-- A write below the stack is not what `Pop16` reads. -/
theorem State.pop16Value_memWrite_below (h : DefaultMap s.params) (b : Byte) :
    (s.memWrite (s.stackAddr s.sp) b).pop16Value = s.pop16Value := by
  have hsecond : (s.memWrite (s.stackAddr s.sp) b).popped.popValue = s.popped.popValue := by
    rw [popped_popValue, popped_popValue, memWrite_params, memWrite_sp]
    exact memRead_memWrite_of_ne s b (stackAddr_ne h (by bv_omega))
  rw [State.pop16Value, State.pop16Value, popValue_memWrite_below h, hsecond]

/-- The low byte, pushed last, is popped first (41 R143). -/
theorem State.pop16Value_push16 (h : DefaultMap s.params) (hwf : s.mem.wf = true) (w : Word) :
    (s.push16 w).pop16Value = w := by
  have hmap : DefaultMap (s.push (hiByte w)).params := by rwa [push_params]
  unfold State.push16 State.pop16Value
  rw [popValue_push hmap (s.push_wf _ hwf), popped_push, popValue_memWrite_below hmap, popValue_push h hwf,
    wordOf_hiByte_loByte]

/-- A byte pushed on a word and popped leaves the word on the stack. -/
theorem State.popped_pop16Value_push16_push (h : DefaultMap s.params) (hwf : s.mem.wf = true) (w : Word) (b : Byte) :
    ((s.push16 w).push b).popped.pop16Value = w := by
  have hmap : DefaultMap (s.push16 w).params := by rwa [push16_params]
  rw [popped_push, pop16Value_memWrite_below hmap, pop16Value_push16 h hwf]

end

/-! ### A pop sees neither the status nor the program counter -/

theorem State.setP_popValue (s : State) (q : Byte) : (s.setP q).popValue = s.popValue := rfl

theorem State.setPC_popValue (s : State) (v : Word) : (s.setPC v).popValue = s.popValue := rfl

theorem State.setPC_pop16Value (s : State) (v : Word) : (s.setPC v).pop16Value = s.pop16Value := rfl

theorem State.setP_popped_pop16Value (s : State) (q : Byte) : (s.setP q).popped.pop16Value = s.popped.pop16Value := rfl

theorem State.setPC_popped_pop16Value (s : State) (v : Word) : (s.setPC v).popped.pop16Value = s.popped.pop16Value := rfl

/-! ### A frame found intact -/

section
variable {t w : State}

/-- A pop answers the same in two states with the same map, the same stack pointer and the same byte on the stack. -/
theorem State.popValue_congr (hparams : w.params = t.params) (hsp : w.sp = t.sp)
    (hread : w.memRead (t.stackAddr (t.sp + 1)) = t.memRead (t.stackAddr (t.sp + 1))) : w.popValue = t.popValue := by
  rw [popValue_eq, hparams, hsp]
  exact hread

theorem State.pop16Value_congr (hparams : w.params = t.params) (hsp : w.sp = t.sp)
    (hlow : w.memRead (t.stackAddr (t.sp + 1)) = t.memRead (t.stackAddr (t.sp + 1)))
    (hhigh : w.memRead (t.stackAddr (t.sp + 1 + 1)) = t.memRead (t.stackAddr (t.sp + 1 + 1))) :
    w.pop16Value = t.pop16Value := by
  have hsecond : w.popped.popValue = t.popped.popValue := popValue_congr hparams (congrArg (· + 1) hsp) hhigh
  rw [State.pop16Value, State.pop16Value, popValue_congr hparams hsp hlow, hsecond]

end

/-! ### RTS after JSR -/

section
variable {s t w u : State} {addr : Word}

theorem storedAt_jsr (s : State) (addr : Word) :
    storedAt (.jsr addr) s = [s.stackAddr s.sp, s.stackAddr (s.sp - 1)] := rfl

/-- After JSR the address of its last byte is on the stack, and the bytes stored are those above the stack pointer
(44 R201). -/
theorem exec_jsr_frame (h : DefaultMap s.params) (hwf : s.mem.wf = true) (ht : exec (.jsr addr) s = .next t) :
    t.pop16Value = s.pc + 2 ∧ t.sp + 1 + 1 = s.sp ∧
      storedAt (.jsr addr) s = [t.stackAddr (t.sp + 1 + 1), t.stackAddr (t.sp + 1)] := by
  obtain rfl := Host.Outcome.next.inj ((exec_jsr addr s).symm.trans ht)
  refine ⟨?_, ?_, ?_⟩
  · rw [State.setPC_pop16Value]
    exact State.pop16Value_push16 (s := s.retire 3 0x20 0) h hwf (s.pc + 2)
  · simp [State.push16]
  · simp [State.push16, State.stackAddr, storedAt_jsr]

/-- RTS goes one past the word it pops (44 R202). -/
theorem exec_rts_pc_sp (hu : exec .rts w = .next u) : u.pc = w.pop16Value + 1 ∧ u.sp = w.sp + 1 + 1 := by
  obtain rfl := Host.Outcome.next.inj ((exec_rts w).symm.trans hu)
  exact ⟨rfl, rfl⟩

end

/-! ### RTI after BRK -/

section
variable {s t w u : State}

/-- The pushed bits 5 and 4 do not return, and a live status has bit 5 set and bit 4 clear (10 R25, 44 R203). -/
theorem pulledStatus_pushedStatus {p : Byte} (h : StatusOk p) : pulledStatus (pushedStatus p) = p := by
  obtain ⟨h5, h4⟩ := h
  refine BitVec.eq_of_getLsbD_eq fun i hi => ?_
  simp only [pulledStatus, pushedStatus, BitVec.getLsbD_or, BitVec.getLsbD_and]
  interval_cases i <;> simp_all

theorem storedAt_brk (s : State) :
    storedAt .brk s = [s.stackAddr s.sp, s.stackAddr (s.sp - 1), s.stackAddr (s.sp - 2)] := rfl

/-- A taken BRK leaves the status on the return address on the stack (45 R219). -/
theorem State.enterBreak_frame (h : DefaultMap s.params) (hwf : s.mem.wf = true) (ret : Word) :
    (s.enterBreak ret).popValue = pushedStatus s.p ∧ (s.enterBreak ret).popped.pop16Value = ret := by
  have hmap : DefaultMap (s.push16 ret).params := by rwa [push16_params]
  have hwf' : (s.push16 ret).mem.wf = true := push_wf _ _ (push_wf _ _ hwf)
  unfold State.enterBreak
  refine ⟨?_, ?_⟩
  · rw [setPC_popValue, setP_popValue, popValue_push hmap hwf']
  · rw [setPC_popped_pop16Value, setP_popped_pop16Value, popped_pop16Value_push16_push h hwf]

/-- After BRK its status and the address two past it are on the stack, and the bytes stored are those above the stack
pointer. -/
theorem exec_brk_frame (h : DefaultMap s.params) (hwf : s.mem.wf = true) (ht : exec .brk s = .next t) :
    t.popValue = pushedStatus s.p ∧ t.popped.pop16Value = s.pc + 2 ∧ t.sp + 1 + 1 + 1 = s.sp ∧
      storedAt .brk s = [t.stackAddr (t.sp + 1 + 1 + 1), t.stackAddr (t.sp + 1 + 1), t.stackAddr (t.sp + 1)] := by
  obtain rfl := Host.Outcome.next.inj ((exec_brk s).symm.trans ht)
  obtain ⟨hstatus, hreturn⟩ := (s.retire 1 0x00 0).enterBreak_frame h hwf (s.pc + 2)
  refine ⟨hstatus, hreturn, ?_, ?_⟩
  · simp [State.enterBreak, State.push16]
  · rw [storedAt_brk, ← byte_sub_one_sub_one]
    simp [State.enterBreak, State.push16, State.stackAddr]

/-- RTI pops the status, then the address (44 R203). -/
theorem exec_rti_pc_p_sp (hu : exec .rti w = .next u) :
    u.pc = w.popped.pop16Value ∧ u.p = pulledStatus w.popValue ∧ u.sp = w.sp + 1 + 1 + 1 := by
  obtain rfl := Host.Outcome.next.inj ((exec_rti w).symm.trans hu)
  exact ⟨rfl, rfl, rfl⟩

end

/-- Settles O31: the return pops in the handler's last state what it would pop right after the call, and there the pops undo
the pushes. -/
theorem returnsUndoCalls : Obligations.ReturnsUndoCalls := by
  refine ⟨fun s t w u h hwf hstatus ht hparams hsp hframe hu => ?brk,
    fun s t w u addr h hwf ht hparams hsp hframe hu => ?jsr⟩
  case brk =>
    obtain ⟨hstatusByte, hreturn, hspBrk, hstored⟩ := exec_brk_frame h hwf ht
    obtain ⟨hpc, hp, hspRti⟩ := exec_rti_pc_p_sp hu
    rw [hstored] at hframe
    simp only [List.forall_mem_cons] at hframe
    obtain ⟨hhigh, hlow, hbyte, -⟩ := hframe
    have hsp' : w.popped.sp = t.popped.sp := congrArg (· + 1) hsp
    refine ⟨?_, ?_, ?_⟩
    · rw [hpc, State.pop16Value_congr (w := w.popped) (t := t.popped) hparams hsp' hlow hhigh, hreturn]
    · rw [hp, State.popValue_congr hparams hsp hbyte, hstatusByte, pulledStatus_pushedStatus hstatus]
    · rw [hspRti, hsp, hspBrk]
  case jsr =>
    obtain ⟨hreturn, hspJsr, hstored⟩ := exec_jsr_frame h hwf ht
    obtain ⟨hpc, hspRts⟩ := exec_rts_pc_sp hu
    rw [hstored] at hframe
    simp only [List.forall_mem_cons] at hframe
    obtain ⟨hhigh, hlow, -⟩ := hframe
    refine ⟨?_, ?_⟩
    · rw [hpc, State.pop16Value_congr hparams hsp hlow hhigh, hreturn]
      exact BitVec.add_assoc s.pc 2 1
    · rw [hspRts, hsp, hspJsr]

end Sys2Proof.Machine
end

section
/-! The flag instructions and NOP (45 R210 to R217). -/

namespace Sys2Proof.Machine

/-! ### The update of one flag -/

/-- An update of one flag's bit keeps every other bit. -/
theorem putC_writesFlag (b : Bool) (p : Byte) : WritesFlag flagC 0x01 b p (putC b p) :=
  ⟨flagC_putC b p, putBits_keeps 0x01 b p⟩

theorem putI_writesFlag (b : Bool) (p : Byte) : WritesFlag flagI 0x04 b p (putI b p) :=
  ⟨flagI_putI b p, putBits_keeps 0x04 b p⟩

theorem putD_writesFlag (b : Bool) (p : Byte) : WritesFlag flagD 0x08 b p (putD b p) :=
  ⟨flagD_putD b p, putBits_keeps 0x08 b p⟩

theorem putV_writesFlag (b : Bool) (p : Byte) : WritesFlag flagV 0x40 b p (putV b p) :=
  ⟨flagV_putV b p, putBits_keeps 0x40 b p⟩

/-! ### The instructions -/

/-- An instruction of one byte that puts the status that `rule` allows and does nothing else. -/
theorem answers_setP {s : State} {i : Instr} {op q : Byte} {base : Nat} {rule : Byte → Byte → Prop} (hrule : rule s.p q)
    (hcode : encode s.params.unsupLen i = [op]) (hbase : defaultCycles.entry op = base)
    (hexec : exec i s = .next ((s.retire 1 op 0).setP q)) : Answers s i op [] base 0 rule s :=
  ⟨hcode, hbase, q, hrule, hexec⟩

/-- Settles O19: each flag instruction puts one flag into the status, and NOP leaves the status as it was. -/
theorem flagInstructionsComplete : Obligations.FlagInstructionsComplete := by
  intro s
  refine ⟨?clc, ?sec, ?cli, ?sei, ?clv, ?cld, ?sed, ?nop⟩
  case clc | sec => exact answers_setP (putC_writesFlag _ s.p) rfl rfl rfl
  case cli | sei => exact answers_setP (putI_writesFlag _ s.p) rfl rfl rfl
  case clv => exact answers_setP (putV_writesFlag false s.p) rfl rfl rfl
  case cld | sed => exact answers_setP (putD_writesFlag _ s.p) rfl rfl rfl
  case nop => exact answers_setP (rule := KeepsStatus) (q := s.p) rfl rfl rfl rfl

end Sys2Proof.Machine
end

section
/-! One sample of the engine, voice by voice: the envelope, the oscillator, hard sync and the noise register (47 R291 to R296,
R302). -/

namespace Sys2Proof.Machine

/-! ### What a sample does to one voice -/

/-- The envelope's step moves stage and level alone. -/
theorem envelopeStep_eq_with (p : Params) (fs : Number) (w : Voice) :
    w.envelopeStep p fs = { w with stage := (w.envelopeStep p fs).stage, level := (w.envelopeStep p fs).level } := by
  unfold Voice.envelopeStep
  split
  case h_1 | h_3 | h_4 => rfl
  case h_2 | h_5 => split <;> rfl

/-- The oscillator does not see the envelope. -/
theorem oscStep_envelopeStep (num : NumDomain) (p : Params) (fs fs' : Number) (w : Voice) :
    (w.envelopeStep p fs).oscStep num fs' = w.oscStep num fs' := by
  rw [envelopeStep_eq_with]
  rfl

/-- A voice after a sample, in terms of the voices before it (47 R302). -/
theorem processOneSample_voice (p : Params) (mute : PerVoice Bool) (e : Engine) (v : VoiceId) :
    (e.processOneSample p mute).engine.voices.get v =
      { e.voices.get v with
        stage := ((e.voices.get v).envelopeStep p e.fs).stage
        level := ((e.voices.get v).envelopeStep p e.fs).level
        phase :=
          syncedPhase (e.voices.get v) ((e.voices.get v).oscStep p.num e.fs) ((e.voices.get (v + 2)).oscStep p.num e.fs)
        lfsr := noiseStep (e.voices.get v) ((e.voices.get v).oscStep p.num e.fs) } := by
  unfold Engine.processOneSample Engine.advanceVoices neighbour
  simp only [PerVoice.get_ofFn, oscStep_envelopeStep]
  rw [envelopeStep_eq_with]
  rfl

theorem processOneSample_stage (p : Params) (mute : PerVoice Bool) (e : Engine) (v : VoiceId) :
    ((e.processOneSample p mute).engine.voices.get v).stage = ((e.voices.get v).envelopeStep p e.fs).stage := by
  rw [processOneSample_voice]

theorem processOneSample_level (p : Params) (mute : PerVoice Bool) (e : Engine) (v : VoiceId) :
    ((e.processOneSample p mute).engine.voices.get v).level = ((e.voices.get v).envelopeStep p e.fs).level := by
  rw [processOneSample_voice]

theorem processOneSample_rel (p : Params) (mute : PerVoice Bool) (e : Engine) (v : VoiceId) :
    ((e.processOneSample p mute).engine.voices.get v).rel = (e.voices.get v).rel := by
  rw [processOneSample_voice]

/-- A sample moves phase, noise register, stage and level alone. -/
theorem processOneSample_keeps_settings (p : Params) (mute : PerVoice Bool) (e : Engine) (v : VoiceId) :
    (e.processOneSample p mute).engine.voices.get v =
      { e.voices.get v with
        phase := ((e.processOneSample p mute).engine.voices.get v).phase
        lfsr := ((e.processOneSample p mute).engine.voices.get v).lfsr
        stage := ((e.processOneSample p mute).engine.voices.get v).stage
        level := ((e.processOneSample p mute).engine.voices.get v).level } := by
  rw [processOneSample_voice]

@[simp] theorem processOneSample_fs (p : Params) (mute : PerVoice Bool) (e : Engine) :
    (e.processOneSample p mute).engine.fs = e.fs := rfl

/-! ### The levels of the envelope over the reals -/

/-- The quotient by a rational number other than 0. -/
theorem Number.toReal_div_rat (x : Number) {q : Rat} (h : q ≠ 0) : (x.div (.rat q)).toReal = x.toReal / (q : ℝ) :=
  Number.toReal_div_of_ne x (Rat.cast_ne_zero.mpr h)

theorem sustainLevel_toReal (n : BitVec 4) : (sustainLevel .exact n).toReal = (n.toNat : ℝ) / 15 := by
  unfold sustainLevel
  rw [numDomain_div_exact, Number.toReal_div_rat _ (by norm_num), Number.toReal_nat, Rat.cast_ofNat]

theorem levelStep_toReal {time fs : Number} (ht : 0 < time.toReal) (hfs : 0 < fs.toReal) :
    (levelStep .exact time fs).toReal = 1 / (time.toReal * fs.toReal) := by
  have hmul : (time.mul fs).toReal = time.toReal * fs.toReal := Number.toReal_mul time fs
  unfold levelStep
  rw [numDomain_div_exact, numDomain_mul_exact, Number.toReal_div_of_ne _ (by rw [hmul]; positivity), hmul,
    Number.toReal_rat, Rat.cast_one]

section

variable {p : Params} {fs : Number} (w : Voice)

theorem risenLevel_toReal (hnum : p.num = .exact) (htables : p.tablesOk = true) (hfs : 0 < fs.toReal) :
    (risenLevel p fs w).toReal = w.level.toReal + 1 / ((nibbleEntry p.attackS w.att).toReal * fs.toReal) := by
  obtain ⟨hattack, -⟩ := Bool.and_eq_true_iff.mp htables
  unfold risenLevel
  rw [hnum, numDomain_add_exact, Number.toReal_add, levelStep_toReal (nibbleEntry_pos hattack _) hfs]

theorem releasedLevel_toReal (hnum : p.num = .exact) (htables : p.tablesOk = true) (hfs : 0 < fs.toReal) :
    (releasedLevel p fs w).toReal = w.level.toReal - 1 / ((nibbleEntry p.decRelS w.rel).toReal * fs.toReal) := by
  obtain ⟨-, hdecrel⟩ := Bool.and_eq_true_iff.mp htables
  unfold releasedLevel
  rw [hnum, numDomain_sub_exact, Number.toReal_sub, levelStep_toReal (nibbleEntry_pos hdecrel _) hfs]

theorem fallToSustain_toReal (hnum : p.num = .exact) (htables : p.tablesOk = true) (hfs : 0 < fs.toReal) :
    (fallToSustain p fs w).toReal =
      if (w.sus.toNat : ℝ) / 15 < w.level.toReal then
        max ((w.sus.toNat : ℝ) / 15) (w.level.toReal - 1 / ((nibbleEntry p.decRelS w.dec).toReal * fs.toReal))
      else w.level.toReal := by
  obtain ⟨-, hdecrel⟩ := Bool.and_eq_true_iff.mp htables
  have hstep := levelStep_toReal (nibbleEntry_pos hdecrel w.dec) hfs
  unfold fallToSustain
  simp only [hnum, Number.lt_iff, apply_ite Number.toReal, number_toReal_max, numDomain_sub_exact, Number.toReal_sub,
    sustainLevel_toReal, hstep]

/-! ### The envelope's step, stage by stage -/

variable {w}

theorem envelopeStep_idle (h : w.stage = .idle) : w.envelopeStep p fs = { w with level := .rat 0 } := by
  unfold Voice.envelopeStep
  simp only [h]

theorem envelopeStep_attack_top (h : w.stage = .attack) (hlevel : 1 ≤ (risenLevel p fs w).toReal) :
    w.envelopeStep p fs = { w with level := .rat 1, stage := .decay } := by
  have htest : Number.le (.rat 1) (risenLevel p fs w) = true := by
    rwa [Number.le_iff, Number.toReal_rat, Rat.cast_one]
  unfold Voice.envelopeStep
  simp only [h, if_pos htest]

theorem envelopeStep_attack_below (h : w.stage = .attack) (hlevel : (risenLevel p fs w).toReal < 1) :
    w.envelopeStep p fs = { w with level := risenLevel p fs w } := by
  have htest : ¬ Number.le (.rat 1) (risenLevel p fs w) = true := by
    rwa [Number.le_iff, Number.toReal_rat, Rat.cast_one, not_le]
  unfold Voice.envelopeStep
  simp only [h, if_neg htest]

theorem envelopeStep_decay (h : w.stage = .decay) :
    w.envelopeStep p fs =
      { w with
        level := fallToSustain p fs w
        stage := if (fallToSustain p fs w).le (sustainLevel p.num w.sus) then .sustain else .decay } := by
  unfold Voice.envelopeStep
  simp only [h]

theorem envelopeStep_sustain (h : w.stage = .sustain) :
    w.envelopeStep p fs = { w with level := fallToSustain p fs w } := by
  unfold Voice.envelopeStep
  simp only [h]

theorem envelopeStep_release_end (h : w.stage = .release) (hlevel : (releasedLevel p fs w).toReal ≤ 0) :
    w.envelopeStep p fs = { w with level := .rat 0, stage := .idle } := by
  have htest : (releasedLevel p fs w).le (.rat 0) = true := by
    rwa [Number.le_iff, Number.toReal_rat, Rat.cast_zero]
  unfold Voice.envelopeStep
  simp only [h, if_pos htest]

theorem envelopeStep_release_above (h : w.stage = .release) (hlevel : 0 < (releasedLevel p fs w).toReal) :
    w.envelopeStep p fs = { w with level := releasedLevel p fs w } := by
  have htest : ¬ (releasedLevel p fs w).le (.rat 0) = true := by
    rwa [Number.le_iff, Number.toReal_rat, Rat.cast_zero, not_le]
  unfold Voice.envelopeStep
  simp only [h, if_neg htest]

end

/-- Settles O59: the step of each stage, with the levels as real numbers. -/
theorem envelopeStepsAsStated : Obligations.EnvelopeStepsAsStated := by
  intro p mute e v hnum htables hfs w w' level S da dd dr fallen
  have hrisen : (risenLevel p e.fs w).toReal = level + da := risenLevel_toReal w hnum htables hfs
  have hreleased : (releasedLevel p e.fs w).toReal = level - dr := releasedLevel_toReal w hnum htables hfs
  have hfallen : (fallToSustain p e.fs w).toReal = fallen := fallToSustain_toReal w hnum htables hfs
  have hstage : w'.stage = (w.envelopeStep p e.fs).stage := processOneSample_stage p mute e v
  have hlevel : w'.level = (w.envelopeStep p e.fs).level := processOneSample_level p mute e v
  rw [hstage, hlevel]
  refine ⟨?idle, ?top, ?below, ?decay, ?sustain, ?ended, ?above⟩
  case idle =>
    intro h
    rw [envelopeStep_idle h]
    exact ⟨Rat.cast_zero, h⟩
  case top =>
    intro h htop
    rw [envelopeStep_attack_top h (hrisen ▸ htop)]
    exact ⟨Rat.cast_one, rfl⟩
  case below =>
    intro h hbelow
    rw [envelopeStep_attack_below h (hrisen ▸ hbelow)]
    exact ⟨hrisen, h⟩
  case decay =>
    intro h
    rw [envelopeStep_decay h]
    refine ⟨hfallen, ?_⟩
    simp only [Number.le_iff, hfallen, hnum, sustainLevel_toReal]
    rfl
  case sustain =>
    intro h
    rw [envelopeStep_sustain h]
    exact ⟨hfallen, h⟩
  case ended =>
    intro h hend
    rw [envelopeStep_release_end h (hreleased ▸ hend)]
    exact ⟨Rat.cast_zero, rfl⟩
  case above =>
    intro h habove
    rw [envelopeStep_release_above h (hreleased ▸ habove)]
    exact ⟨hreleased, h⟩

/-! ### Release -/

/-- An Idle voice is at level 0 from the first sample on. -/
theorem samples_idle (p : Params) (mute : PerVoice Bool) (v : VoiceId) {n : Nat} {e : Engine} (hn : 1 ≤ n)
    (h : (e.voices.get v).stage = .idle) :
    ((samples p mute n e).voices.get v).stage = .idle ∧ ((samples p mute n e).voices.get v).level = .rat 0 := by
  induction n, hn using Nat.le_induction generalizing e with
  | base =>
    refine ⟨(processOneSample_stage p mute e v).trans ?_, (processOneSample_level p mute e v).trans ?_⟩ <;>
      rw [envelopeStep_idle h]
    exact h
  | succ n _ ih =>
    refine ih ?_
    rw [processOneSample_stage, envelopeStep_idle h]
    exact h

/-- A voice in Release falls by the same step at each sample, so after as many samples as its level holds steps it is Idle. -/
theorem samples_release {p : Params} (mute : PerVoice Bool) (v : VoiceId) (hnum : p.num = .exact)
    (htables : p.tablesOk = true) {n : Nat} {e : Engine} (hn : 1 ≤ n) (hfs : 0 < e.fs.toReal)
    (h : (e.voices.get v).stage = .release)
    (hlevel : (e.voices.get v).level.toReal ≤
      n * (1 / ((nibbleEntry p.decRelS (e.voices.get v).rel).toReal * e.fs.toReal))) :
    ((samples p mute n e).voices.get v).stage = .idle ∧ ((samples p mute n e).voices.get v).level = .rat 0 := by
  induction n, hn using Nat.le_induction generalizing e with
  | base =>
    have hend : (releasedLevel p e.fs (e.voices.get v)).toReal ≤ 0 := by
      rw [releasedLevel_toReal _ hnum htables hfs]
      rw [Nat.cast_one, one_mul] at hlevel
      linarith
    refine ⟨(processOneSample_stage p mute e v).trans ?_, (processOneSample_level p mute e v).trans ?_⟩ <;>
      rw [envelopeStep_release_end h hend]
  | succ n hn ih =>
    rcases le_or_gt (releasedLevel p e.fs (e.voices.get v)).toReal 0 with hend | habove
    · refine samples_idle (e := (e.processOneSample p mute).engine) p mute v hn ?_
      rw [processOneSample_stage, envelopeStep_release_end h hend]
    · refine ih hfs ?_ ?_
      · rw [processOneSample_stage, envelopeStep_release_above h habove]
        exact h
      · rw [processOneSample_level, processOneSample_rel, processOneSample_fs, envelopeStep_release_above h habove,
          releasedLevel_toReal _ hnum htables hfs]
        rw [Nat.cast_add_one, add_one_mul] at hlevel
        linarith

/-- Settles O56: `note_off` leaves the voice Idle or in Release, and a level of at most 1 holds `DECREL_S * fs` steps. -/
theorem releaseReachesIdle : Obligations.ReleaseReachesIdle := by
  intro p mute e v n hnum htables hfs _ hlevel hn htime
  have hvoice : (e.noteOff v).voices.get v = (e.voices.get v).noteOff := PerVoice.get_set_self _ v _
  by_cases h : (e.voices.get v).stage = .idle
  · refine samples_idle p mute v hn ?_
    rw [hvoice]
    exact if_pos h
  · refine samples_release mute v hnum htables hn hfs ?_ ?_
    · rw [hvoice]
      exact if_neg h
    · rw [hvoice]
      obtain ⟨-, hdecrel⟩ := Bool.and_eq_true_iff.mp htables
      have htotal := mul_pos (nibbleEntry_pos hdecrel (e.voices.get v).rel) hfs
      refine hlevel.trans ?_
      rw [mul_one_div]
      exact (one_le_div htotal).mpr htime

/-! ### The oscillator, hard sync and the noise register over the reals -/

/-- The phase before it is wrapped (47 R293). -/
theorem advanced_toReal (w : Voice) {fs : Number} (hfs : 0 < fs.toReal) :
    (w.advanced .exact fs).toReal = w.phase.toReal + w.hz.toReal * w.ratio.toReal / fs.toReal := by
  unfold Voice.advanced
  rw [numDomain_temperedAdd_exact, numDomain_temperedDiv_exact, numDomain_temperedMul_exact, TemperedReal.toReal_add,
    TemperedReal.toReal_divide _ hfs.ne', TemperedReal.toReal_scale, mul_comm w.ratio.toReal]

theorem oscStep_test {w : Voice} (h : w.test = true) (num : NumDomain) (fs : Number) :
    w.oscStep num fs = { phase := TemperedReal.ofNumber (.rat 0), wrapped := false, clocks := 0 } := by
  unfold Voice.oscStep
  rw [if_pos h]

/-- The oscillator's advance without the test bit (47 R293). -/
theorem oscStep_toReal {w : Voice} (h : w.test = false) {fs : Number} (hfs : 0 < fs.toReal) :
    let u := w.phase.toReal + w.hz.toReal * w.ratio.toReal / fs.toReal
    (w.oscStep .exact fs).phase.toReal = u - ⌊u⌋ ∧ (w.oscStep .exact fs).wrapped = decide (1 ≤ u) ∧
      (w.oscStep .exact fs).clocks = (⌊16 * u⌋ - ⌊16 * w.phase.toReal⌋).toNat := by
  have hfloor : ∀ x : ℝ, (1 : Int) ≤ ⌊x⌋ ↔ 1 ≤ x := fun x => Int.le_floor.trans (by rw [Int.cast_one])
  unfold Voice.oscStep
  rw [if_neg (by rw [h]; exact Bool.false_ne_true)]
  simp only [numDomain_temperedFrac_exact, numDomain_temperedMul_exact, TemperedReal.toReal_frac, TemperedReal.floor_eq,
    TemperedReal.toReal_scale, Number.toReal_rat, Rat.cast_ofNat, advanced_toReal w hfs, hfloor, and_self]

/-- A voice wraps if it is not under test and its phase reaches 1 (47 R293, R294). -/
theorem oscStep_wrapped_iff (w : Voice) {fs : Number} (hfs : 0 < fs.toReal) :
    (w.oscStep .exact fs).wrapped = true ↔
      w.test = false ∧ 1 ≤ w.phase.toReal + w.hz.toReal * w.ratio.toReal / fs.toReal := by
  cases h : w.test with
  | true => simp [oscStep_test h]
  | false => simp [(oscStep_toReal h hfs).2.1]

/-- Settles O58, from the voice after a sample and the oscillator's advance over the reals. -/
theorem sampleAdvancesOscillators : Obligations.SampleAdvancesOscillators := by
  intro p mute e v hnum hfs w n w' u un
  have hvoice := processOneSample_voice p mute e v
  have hphase : w'.phase = syncedPhase w (w.oscStep .exact e.fs) (n.oscStep .exact e.fs) := by
    rw [← hnum]
    exact congrArg Voice.phase hvoice
  have hlfsr : w'.lfsr = noiseStep w (w.oscStep .exact e.fs) := by
    rw [← hnum]
    exact congrArg Voice.lfsr hvoice
  refine ⟨fun htest => ?_, fun htest => ?_, ?_⟩
  · rw [hphase, hlfsr]
    unfold syncedPhase noiseStep
    rw [oscStep_test htest, ite_self, if_pos htest, TemperedReal.toReal_ofNumber]
    exact ⟨Rat.cast_zero, rfl⟩
  · obtain ⟨hown, -, hclocks⟩ := oscStep_toReal htest hfs
    have hwrapped := oscStep_wrapped_iff n hfs
    have hsync : (w.sync && (n.oscStep .exact e.fs).wrapped && !w.test) = true ↔
        w.sync = true ∧ n.test = false ∧ 1 ≤ un := by
      rw [htest, Bool.not_false, Bool.and_true, Bool.and_eq_true, hwrapped]
    rw [hphase, hlfsr]
    constructor
    · unfold syncedPhase
      simp only [hsync, apply_ite TemperedReal.toReal, TemperedReal.toReal_ofNumber, Number.toReal_rat, Rat.cast_zero,
        hown]
      rfl
    · unfold noiseStep
      rw [if_neg (by rw [htest]; exact Bool.false_ne_true), hclocks]
  · exact processOneSample_keeps_settings p mute e v

end Sys2Proof.Machine
end

section
/-! The frame of one sample: each voice's output, the mix, silence, the end of an output frame, and stop() (47 R283, R297 to
R302, R305, 48 R320 to R323, 49 R348). -/

namespace Sys2Proof.Machine

/-! ### The contributions of a voice as numbers -/

theorem phaseIndex_toNat (w : Voice) : (phaseIndex .exact w.phase).toNat = phaseNumber w := by
  unfold phaseIndex phaseNumber
  rw [BitVec.toNat_ofInt, numDomain_temperedMul_exact, TemperedReal.floor_eq, TemperedReal.toReal_scale,
    Number.toReal_rat, Rat.cast_ofNat]
  rfl

/-- The top bit of a phase index is set in the second half of the period. -/
theorem getLsbD_eleven (q : BitVec 12) : q.getLsbD 11 = decide (2048 ≤ q.toNat) :=
  (BitVec.msb_eq_getLsbD_last q).symm.trans (BitVec.msb_eq_decide q)

theorem tri12_toNat (ring : Bool) (q qs : BitVec 12) : (tri12 ring q qs).toNat = triangleNumber ring q.toNat qs.toNat := by
  have hdouble : (q <<< 1).toNat = 2 * q.toNat % 4096 := by
    rw [BitVec.toNat_shiftLeft, Nat.shiftLeft_eq, mul_comm]
  have hfold : ((q <<< 1) ^^^ 0xFFF).toNat = 4095 - 2 * q.toNat % 4096 := by
    rw [← hdouble, show (0xFFF : BitVec 12) = BitVec.allOnes 12 from rfl, BitVec.xor_allOnes, BitVec.toNat_not]
  have htest : (q.getLsbD 11 ^^ (ring && qs.getLsbD 11)) = true ↔ Xor (2048 ≤ q.toNat) (ring = true ∧ 2048 ≤ qs.toNat) := by
    rw [Bool.xor_iff_ne, ne_eq, Bool.eq_iff_iff, xor_iff_not_iff, Bool.and_eq_true, getLsbD_eleven, getLsbD_eleven,
      decide_eq_true_iff, decide_eq_true_iff]
  unfold tri12 triangleNumber
  simp only [htest, apply_ite BitVec.toNat, hdouble, hfold]

theorem pulse12_toNat (pw q : BitVec 12) : (pulse12 pw q).toNat = if pw.toNat ≤ q.toNat then 4095 else 0 :=
  apply_ite BitVec.toNat _ _ _

/-- The number that eight bits spell, the highest first, four places up. -/
theorem toNat_eight_bits : ∀ b7 b6 b5 b4 b3 b2 b1 b0 : Bool,
    ((BitVec.ofBool b7 ++ BitVec.ofBool b6 ++ BitVec.ofBool b5 ++ BitVec.ofBool b4 ++ BitVec.ofBool b3 ++
      BitVec.ofBool b2 ++ BitVec.ofBool b1 ++ BitVec.ofBool b0 ++ 0#4 : BitVec 12)).toNat =
      16 * (128 * b7.toNat + 64 * b6.toNat + 32 * b5.toNat + 16 * b4.toNat + 8 * b3.toNat + 4 * b2.toNat +
        2 * b1.toNat + b0.toNat) := by
  decide

theorem noise12_toNat (r : BitVec 23) : (noise12 r).toNat = noiseNumber r := toNat_eight_bits ..

theorem combined12_toNat (w : Voice) (q qs : BitVec 12) : (combined12 w q qs).toNat = waveNumber w q.toNat qs.toNat := by
  have hzero : (0 : BitVec 12).toNat = 0 := rfl
  unfold combined12 waveNumber saw12
  simp only [apply_ite BitVec.toNat, BitVec.toNat_or, noise12_toNat, tri12_toNat, pulse12_toNat, hzero]

/-! ### The outputs and the mix over the reals -/

theorem osc_toReal {w : Voice} (h : w.wave ≠ 0) (q qs : BitVec 12) :
    (w.osc .exact q qs).toReal = ((waveNumber w q.toNat qs.toNat : ℝ) - 2048) / 2048 := by
  unfold Voice.osc
  rw [if_neg h, numDomain_div_exact, numDomain_sub_exact, Number.toReal_div_rat _ (by norm_num),
    Number.toReal_sub, Number.toReal_rat, Rat.cast_ofNat, Number.toReal_nat, combined12_toNat]

theorem output_toReal {w : Voice} (h : w.wave ≠ 0) (q qs : BitVec 12) :
    (w.output .exact q qs).toReal =
      ((waveNumber w q.toNat qs.toNat : ℝ) - 2048) / 2048 * w.level.toReal * (w.vel.val / 127) := by
  unfold Voice.output
  rw [numDomain_mul_exact, numDomain_mul_exact, numDomain_div_exact, Number.toReal_mul, Number.toReal_mul,
    osc_toReal h, Number.toReal_div_rat _ (by norm_num), Rat.cast_ofNat, Number.toReal_nat]

/-- A voice without a waveform puts out 0, in every domain. -/
theorem output_of_wave_zero (num : NumDomain) {w : Voice} (h : w.wave = 0) (q qs : BitVec 12) :
    w.output num q qs = .rat 0 := by
  unfold Voice.output Voice.osc
  rw [if_pos h, numDomain_zero_mul, numDomain_zero_mul]

theorem voiceOut_of_mute (num : NumDomain) {mute : PerVoice Bool} (vs : PerVoice Voice) {v : VoiceId}
    (h : mute.get v = true) : voiceOut num mute vs v = .rat 0 := if_pos h

theorem voiceOut_of_not_mute (num : NumDomain) {mute : PerVoice Bool} (vs : PerVoice Voice) {v : VoiceId}
    (h : ¬ mute.get v = true) :
    voiceOut num mute vs v =
      (vs.get v).output num (phaseIndex num (vs.get v).phase) (phaseIndex num (vs.get (v + 2)).phase) := if_neg h

theorem voiceOut_toReal (mute : PerVoice Bool) (vs : PerVoice Voice) (v : VoiceId) :
    (voiceOut .exact mute vs v).toReal = outputNumber mute vs v := by
  unfold outputNumber
  by_cases hmute : mute.get v = true
  · rw [voiceOut_of_mute _ _ hmute, if_pos (.inl hmute)]
    exact Rat.cast_zero
  · rw [voiceOut_of_not_mute _ _ hmute]
    by_cases hwave : (vs.get v).wave = 0
    · rw [output_of_wave_zero _ hwave, if_pos (.inr hwave)]
      exact Rat.cast_zero
    · rw [output_toReal hwave, phaseIndex_toNat, phaseIndex_toNat, if_neg (not_or.mpr ⟨hmute, hwave⟩)]

/-- The sum of 47 R301, one voice after the other. -/
theorem routedSum_toReal (mute route : PerVoice Bool) (vs : PerVoice Voice) (on : Bool) :
    (routedSum .exact mute route vs on).toReal =
      (if route.get 0 = on then outputNumber mute vs 0 else 0) + (if route.get 1 = on then outputNumber mute vs 1 else 0) +
        (if route.get 2 = on then outputNumber mute vs 2 else 0) := by
  have hterm : ∀ (v : VoiceId) (sum : Number),
      (if route.get v = on then NumDomain.exact.add sum (voiceOut .exact mute vs v) else sum).toReal =
        sum.toReal + if route.get v = on then outputNumber mute vs v else 0 := fun v sum => by
    split
    · rw [numDomain_add_exact, Number.toReal_add, voiceOut_toReal]
    · rw [add_zero]
  unfold routedSum
  simp only [List.foldl_cons, List.foldl_nil, hterm, Number.toReal_rat, Rat.cast_zero, zero_add]

theorem mixSample_toReal {p : Params} (hnum : p.num = .exact) (e : Engine) (direct : Number) (y : FilterReal) :
    (mixSample p e direct y).toReal = (direct.toReal + y.toReal) * (e.volume.toNat / 15) * p.mixScale.toReal := by
  unfold mixSample
  simp only [hnum, numDomain_filterMul_exact, numDomain_filterAdd_exact, numDomain_div_exact, FilterReal.toReal_scale,
    FilterReal.toReal_add, FilterReal.toReal_number]
  rw [Number.toReal_div_rat _ (by norm_num), Rat.cast_ofNat, Number.toReal_nat]
  ring

/-- Settles O60: the two routed sums, FILTER's input and the mix over the reals. -/
theorem voiceOutputAndMix : Obligations.VoiceOutputAndMix := by
  intro p mute e hnum r vs vo sum i f
  have hsum : ∀ on, (routedSum p.num mute e.route vs on).toReal = sum on := fun on => by
    rw [hnum]
    exact routedSum_toReal mute e.route vs on
  refine ⟨?_, ?_, rfl, rfl, rfl⟩
  · rw [← hsum]
    rfl
  · rw [← hsum]
    exact mixSample_toReal hnum e _ _

/-! ### Silence in every domain -/

theorem isZero_rat_zero (num : NumDomain) : IsZero num (.rat 0) := by
  cases num with
  | exact => exact Rat.cast_zero
  | rounding _ => rfl

theorem IsZero.add {num : NumDomain} {x y : Number} (hx : IsZero num x) (hy : IsZero num y) : IsZero num (num.add x y) := by
  cases num with
  | exact =>
    have hsum : (x.add y).toReal = 0 := by rw [Number.toReal_add, hx, hy, add_zero]
    exact hsum
  | rounding _ =>
    obtain rfl : x = .rat 0 := hx
    obtain rfl : y = .rat 0 := hy
    exact numDomain_add_nat _ (k := 0) (l := 0) (by decide)

theorem IsZero.mul_left {num : NumDomain} {x : Number} (hx : IsZero num x) (y : Number) : IsZero num (num.mul x y) := by
  cases num with
  | exact =>
    have hproduct : (x.mul y).toReal = 0 := by rw [Number.toReal_mul, hx, zero_mul]
    exact hproduct
  | rounding _ =>
    obtain rfl : x = .rat 0 := hx
    exact numDomain_zero_mul _ y

theorem IsZero.mul_right {num : NumDomain} {y : Number} (hy : IsZero num y) (x : Number) : IsZero num (num.mul x y) := by
  cases num with
  | exact =>
    have hproduct : (x.mul y).toReal = 0 := by rw [Number.toReal_mul, hy, mul_zero]
    exact hproduct
  | rounding _ =>
    obtain rfl : y = .rat 0 := hy
    exact numDomain_mul_zero _ x

theorem IsZero.number {num : NumDomain} {x : Number} (hx : IsZero num x) : IsFilterZero num (.number x) := by
  cases num with
  | exact => exact hx
  | rounding _ => exact congrArg FilterReal.number hx

theorem IsFilterZero.filterMul {num : NumDomain} {x : FilterReal} (hx : IsFilterZero num x) (q : Number) :
    IsFilterZero num (num.filterMul q x) := by
  cases num with
  | exact =>
    have hproduct : (x.scale q).toReal = 0 := by rw [FilterReal.toReal_scale, hx, mul_zero]
    exact hproduct
  | rounding _ =>
    obtain rfl : x = FilterReal.zero := hx
    exact numDomain_filterMul_zero _ q

theorem IsFilterZero.filterAdd {num : NumDomain} {x y : FilterReal} (hx : IsFilterZero num x) (hy : IsFilterZero num y) :
    IsFilterZero num (num.filterAdd x y) := by
  cases num with
  | exact =>
    have hsum : (x.add y).toReal = 0 := by rw [FilterReal.toReal_add, hx, hy, add_zero]
    exact hsum
  | rounding _ =>
    obtain rfl : x = FilterReal.zero := hx
    obtain rfl : y = FilterReal.zero := hy
    exact numDomain_filterAdd_zero _

/-- Nothing times a sum is 0: over exact reals whatever the sum is, in a rounding domain because the sum is held as a number. -/
theorem isFilterZero_zero_filterMul (num : NumDomain) (x y : FilterReal) :
    IsFilterZero num (num.filterMul (.rat 0) (num.filterAdd x y)) := by
  cases num with
  | exact =>
    have hproduct : ((x.add y).scale (.rat 0)).toReal = 0 := by
      rw [FilterReal.toReal_scale, Number.toReal_rat, Rat.cast_zero, zero_mul]
    exact hproduct
  | rounding n =>
    obtain ⟨z, hz⟩ : ∃ z, (NumDomain.rounding n).filterAdd x y = .number z := ⟨_, rfl⟩
    rw [hz]
    exact congrArg FilterReal.number (numDomain_zero_mul (.rounding n) z)

/-- A voice at level 0, without a waveform or muted puts out 0 (47 R305). -/
theorem voiceOut_isZero {num : NumDomain} {mute : PerVoice Bool} {vs : PerVoice Voice} {v : VoiceId}
    (h : IsZero num (vs.get v).level ∨ (vs.get v).wave = 0 ∨ mute.get v = true) :
    IsZero num (voiceOut num mute vs v) := by
  by_cases hmute : mute.get v = true
  · rw [voiceOut_of_mute _ _ hmute]
    exact isZero_rat_zero num
  · rw [voiceOut_of_not_mute _ _ hmute]
    rcases h with hlevel | hwave | hmuted
    · exact (hlevel.mul_right _).mul_left _
    · rw [output_of_wave_zero _ hwave]
      exact isZero_rat_zero num
    · exact absurd hmuted hmute

/-- The sum of silent voices is 0, by induction on the voices summed. -/
theorem routedSum_isZero {num : NumDomain} {mute : PerVoice Bool} {vs : PerVoice Voice}
    (h : ∀ v, IsZero num (voiceOut num mute vs v)) (route : PerVoice Bool) (on : Bool) :
    IsZero num (routedSum num mute route vs on) := by
  unfold routedSum
  refine List.foldlRecOn (motive := IsZero num) _ _ (isZero_rat_zero num) fun sum hsum v _ => ?_
  split
  · exact hsum.add (h v)
  · exact hsum

theorem mixSample_volume_zero (p : Params) {e : Engine} (h : e.volume = 0) (direct : Number) (y : FilterReal) :
    IsFilterZero p.num (mixSample p e direct y) := by
  have hzero : (Number.nat (0 : BitVec 4).toNat).div (.rat 15) = .rat 0 := by
    simp [Number.div, Number.nat, Number.rational]
  have hgain : p.num.div (.nat e.volume.toNat) (.rat 15) = .rat 0 := by
    unfold NumDomain.div
    rw [h, hzero]
    exact numDomain_of_held p.num rfl
  unfold mixSample
  rw [hgain]
  exact (isFilterZero_zero_filterMul p.num _ y).filterMul _

/-- Settles O57: volume 0 makes the last product 0; silent voices give FILTER and the direct sum nothing. -/
theorem silenceProperties : Obligations.SilenceProperties := by
  intro p mute e r
  refine ⟨rfl, fun h => mixSample_volume_zero p h _ _, fun hsilent hlow hband => ?_⟩
  have hvoices : ∀ v, IsZero p.num (voiceOut p.num mute (e.advanceVoices p) v) := fun v => voiceOut_isZero (hsilent v)
  obtain ⟨hlow', hband', hy⟩ := runFilter_rest p (i := filterInput p mute (e.advanceVoices p) e)
    (routedSum_isZero hvoices e.route true) hlow hband
  have hdirect := (routedSum_isZero hvoices e.route false).number
  exact ⟨((hdirect.filterAdd hy).filterMul _).filterMul _, hlow', hband'⟩

/-! ### The end of an output frame, and stop() -/

theorem step_sample {s : State} {left : Nat} (h : s.task = .sample left) : step s = .next (s.sampleStep left) := by
  unfold step State.subStep
  rw [h]

/-- Settles O44: the machine's step there is `sampleStep`, which uses the one engine sample on both channels. -/
theorem outputFrameEndsWithOneSample : Obligations.OutputFrameEndsWithOneSample := by
  intro s left h
  exact ⟨(s.engine.processOneSample s.params s.ctl.mute).left, step_sample h, rfl, rfl⟩

/-- The three calls of `note_off` are `note_off` on every voice. -/
theorem releaseAll_eq (e : Engine) :
    e.releaseAll = { e with voices := PerVoice.ofFn fun v => (e.voices.get v).noteOff } := rfl

/-- Settles O45: `note_off` on every voice, and the player's fields. -/
theorem stopReleasesVoices : Obligations.StopReleasesVoices := by
  intro s
  have hcall : s.beginCall .stop = .next s.stopPlayback := rfl
  rw [hcall]
  unfold State.stopPlayback
  rw [releaseAll_eq]
  rfl

end Sys2Proof.Machine
end

section
/-! What an instruction and a burst cannot change (49 R340), and that every burst ends within its budget (49 R335 to R339,
R353). -/

namespace Sys2Proof.Machine

/-! ### The engine's clocked state -/

theorem EngineClockKept.refl (e : Engine) : EngineClockKept e e := ⟨rfl, rfl, rfl, fun _ => ⟨rfl, rfl, rfl⟩⟩

theorem EngineClockKept.trans {e f g : Engine} (h : EngineClockKept e f) (h' : EngineClockKept f g) :
    EngineClockKept e g := by
  obtain ⟨hfs, hlow, hband, hvoices⟩ := h
  obtain ⟨hfs', hlow', hband', hvoices'⟩ := h'
  refine ⟨hfs'.trans hfs, hlow'.trans hlow, hband'.trans hband, fun v => ?_⟩
  obtain ⟨hphase, hlfsr, hlevel⟩ := hvoices v
  obtain ⟨hphase', hlfsr', hlevel'⟩ := hvoices' v
  exact ⟨hphase'.trans hphase, hlfsr'.trans hlfsr, hlevel'.trans hlevel⟩

theorem engineClockKept_onVoice (e : Engine) (v : VoiceId) {f : Voice → Voice}
    (hf : ∀ w, (f w).phase = w.phase ∧ (f w).lfsr = w.lfsr ∧ (f w).level = w.level) :
    EngineClockKept e (e.onVoice v f) := by
  refine ⟨rfl, rfl, rfl, fun w => ?_⟩
  unfold Engine.onVoice
  rw [PerVoice.get_set]
  split
  · rename_i hw
    exact hw ▸ hf _
  · exact ⟨rfl, rfl, rfl⟩

theorem engineClockKept_gateAction (p : Params) (v : VoiceId) (edge : GateEdge) (c : RegisterCache) (e : Engine) :
    EngineClockKept e (gateAction p v edge c e) := by
  cases edge with
  | rise =>
    unfold gateAction
    dsimp only
    split
    · exact engineClockKept_onVoice e v fun _ => ⟨rfl, rfl, rfl⟩
    · exact .refl e
  | fall => exact engineClockKept_onVoice e v fun _ => ⟨rfl, rfl, rfl⟩
  | held =>
    unfold gateAction
    dsimp only
    split
    · exact engineClockKept_onVoice e v fun _ => ⟨rfl, rfl, rfl⟩
    · exact .refl e
  | low => exact .refl e

/-- The bridge's calls are setters, of which none moves the clocked state (47 R305 (f)). -/
theorem engineClockKept_dispatchWrite (p : Params) (reg : WindowReg) (b : Byte) (c : RegisterCache) (e : Engine) :
    EngineClockKept e (dispatchWrite p reg b c e) := by
  cases reg with
  | freqLo | freqHi | pwLo | pwHi | unnamed => exact .refl e
  | control v =>
    refine EngineClockKept.trans ?_ (engineClockKept_gateAction p v _ c _)
    rw [controlSetters_eq]
    exact engineClockKept_onVoice e v fun _ => ⟨rfl, rfl, rfl⟩
  | attackDecay v => rw [dispatchWrite_attackDecay]; exact engineClockKept_onVoice e v fun _ => ⟨rfl, rfl, rfl⟩
  | sustainRelease v => rw [dispatchWrite_sustainRelease]; exact engineClockKept_onVoice e v fun _ => ⟨rfl, rfl, rfl⟩
  | fcLo | fcHi | resFilt | modeVol => exact ⟨rfl, rfl, rfl, fun _ => ⟨rfl, rfl, rfl⟩⟩

theorem engineClockKept_memWrite (s : State) (a : Word) (v : Byte) : EngineClockKept s.engine (s.memWrite a v).engine := by
  rcases s.memWrite_cases a v with ⟨o, _, e⟩ | ⟨_, e⟩ <;> rw [e]
  · exact engineClockKept_dispatchWrite _ _ _ _ _
  · exact .refl _

theorem Stores.engineClockKept {addrs : List Word} {s t : State} (h : Stores addrs s t) :
    EngineClockKept s.engine t.engine := by
  induction h with
  | done hsame => rw [hsame.engine]; exact .refl _
  | write _ _ ih => exact (engineClockKept_memWrite ..).trans ih

/-! ### The host's side of the state -/

/-- What a burst cannot change: the song, the player, the parameters, the host's configuration and the engine's clocked
state (49 R340). -/
structure HostSideKept (s t : State) : Prop where
  song : t.song = s.song
  play : t.play = s.play
  params : t.params = s.params
  ctl : t.ctl = s.ctl
  engine : EngineClockKept s.engine t.engine

theorem HostSideKept.trans {s t u : State} (h : HostSideKept s t) (h' : HostSideKept t u) : HostSideKept s u :=
  ⟨h'.song.trans h.song, h'.play.trans h.play, h'.params.trans h.params, h'.ctl.trans h.ctl, h.engine.trans h'.engine⟩

/-- The state outside the processor that no form names. -/
theorem Form.keepsOutside {i : Instr} {g : State → State} (hg : Form i g) (s : State) :
    (g s).song = s.song ∧ (g s).play = s.play ∧ (g s).params = s.params ∧ (g s).ctl = s.ctl ∧ (g s).task = s.task ∧
      (g s).calls = s.calls ∧ (g s).out = s.out ∧ (g s).callbacks = s.callbacks ∧ (g s).loadResult = s.loadResult := by
  cases hg with
  | toA | toX | toY | toP | store | modify | jump | txs | pha | php | plp => simp
  | pla => simp [State.loadA]
  | jsr => simp [State.push16]
  | rts => simp [State.popped16]
  | rti => simp [State.returnFromBreak, State.popped16]
  | brk => simp [State.enterBreak, State.push16]
  | skip => exact ⟨rfl, rfl, rfl, rfl, rfl, rfl, rfl, rfl, rfl⟩

/-- The skip is the one form that counts and records an unsupported opcode (45 R222). -/
theorem Form.keepsDiagnostics {i : Instr} {g : State → State} (hg : Form i g) (s : State)
    (hm : i.mnemonic ≠ .unsupported) : (g s).unsupCount = s.unsupCount ∧ (g s).events = s.events := by
  cases hg with
  | toA | toX | toY | toP | jump | txs | pla | plp | rts | rti => exact ⟨rfl, rfl⟩
  | store | modify | pha | php => simp
  | jsr => simp [State.push16]
  | brk => simp [State.enterBreak, State.push16]
  | skip hskip => exact absurd hskip hm

theorem exec_engineClockKept {i : Instr} {s t : State} (h : exec i s = .next t) : EngineClockKept s.engine t.engine := by
  obtain ⟨u, hexec, hstores⟩ := exec_stores i s
  obtain rfl : u = t := Host.Outcome.next.inj (hexec.symm.trans h)
  exact hstores.engineClockKept

/-- Settles O30: the engine through the write hook's calls, the rest by the form of the instruction. -/
theorem instructionsKeepHostSideState : Obligations.InstructionsKeepHostSideState := by
  intro i s t h
  obtain ⟨g, hg, hexec⟩ := exec_form i
  obtain rfl : g s = t := Host.Outcome.next.inj ((hexec s).symm.trans h)
  obtain ⟨hsong, hplay, hparams, hctl, htask, hcalls, hout, hcallbacks, hresult⟩ := hg.keepsOutside s
  exact ⟨hsong, hplay, hparams, hctl, exec_engineClockKept h, htask, hcalls, hout, hcallbacks, hresult,
    hg.keepsDiagnostics s⟩

theorem exec_hostSideKept {i : Instr} {s t : State} (h : exec i s = .next t) : HostSideKept s t := by
  obtain ⟨hsong, hplay, hparams, hctl, hengine, _⟩ := instructionsKeepHostSideState i s t h
  exact ⟨hsong, hplay, hparams, hctl, hengine⟩

/-! ### The tests of the burst loop -/

/-- SP_GUARD as the machine tests it; its default is bit 7 of a difference that is at least 128 just where the opposite
difference is 1 to 128 (49 R338). -/
theorem spGuard_iff (p : Params) (spIn sp : Byte) : spGuard p spIn sp = true ↔ GuardHolds p spIn sp := by
  unfold spGuard GuardHolds
  cases p.spGuard with
  | aboveEntry =>
    dsimp only
    rw [bit7_eq_decide, decide_eq_true_eq]
    bv_omega
  | heldBy pairs => exact List.contains_iff_mem

section
variable {s : State} {caller : Caller} {spIn : Byte} {used : Nat}

theorem step_burst (h : s.task = .burst caller spIn used) : step s = s.burstStep caller spIn used := by
  unfold step State.subStep
  rw [h]

theorem burstStep_of_sentinel (h : s.pc = s.params.sentinelPC) :
    s.burstStep caller spIn used = .next (s.endBurst caller .returned) := if_pos h

theorem burstStep_of_budget (hpc : s.pc ≠ s.params.sentinelPC) (h : s.params.maxCycles ≤ used) :
    s.burstStep caller spIn used = .next ((s.raise .burstBudget).endBurst caller .budget) := by
  unfold State.burstStep
  rw [if_neg hpc, if_pos h]

theorem guardBurst_of_stuck {pc0 : Word} (h : s.pc = pc0 ∧ s.ctl.loopDetectionDisabled = false) :
    s.guardBurst caller spIn used pc0 = (s.raise .burstStuckPC).endBurst caller .stuckPC := if_pos h

theorem guardBurst_of_drift {pc0 : Word} (hpc : ¬ (s.pc = pc0 ∧ s.ctl.loopDetectionDisabled = false))
    (h : GuardHolds s.params spIn s.sp) :
    s.guardBurst caller spIn used pc0 = (s.raise .burstStackDrift).endBurst caller .stackDrift := by
  unfold State.guardBurst
  rw [if_neg hpc, if_pos ((spGuard_iff ..).mpr h)]

theorem guardBurst_of_unguarded {pc0 : Word} (hpc : ¬ (s.pc = pc0 ∧ s.ctl.loopDetectionDisabled = false))
    (h : ¬ GuardHolds s.params spIn s.sp) :
    s.guardBurst caller spIn used pc0 = { s with task := .burst caller spIn used } := by
  unfold State.guardBurst
  rw [if_neg hpc, if_neg fun hguard => h ((spGuard_iff ..).mp hguard)]

end

/-- Settles O6, test by test. -/
theorem burstLoopEndsInOrder : Obligations.BurstLoopEndsInOrder := by
  intro s caller spIn used
  refine ⟨fun htask hpc => ?_, fun htask hpc hused => ?_, fun pc0 =>
    ⟨guardBurst_of_stuck, guardBurst_of_drift, guardBurst_of_unguarded⟩⟩
  · exact (step_burst htask).trans (burstStep_of_sentinel hpc)
  · exact (step_burst htask).trans (burstStep_of_budget hpc hused)

/-! ### A burst's steps -/

theorem cpuStep_hostSideKept {s t : State} (h : s.cpuStep = .next t) : HostSideKept s t := by
  unfold State.cpuStep at h
  split at h
  · obtain rfl := Host.Outcome.next.inj h
    exact ⟨rfl, rfl, rfl, rfl, .refl _⟩
  · exact exec_hostSideKept h

theorem cpuStep_cycles_pos {s t : State} (h : s.cpuStep = .next t) (hok : s.params.cyclesOk = true) : 1 ≤ t.cycles := by
  unfold State.cpuStep at h
  split at h
  · obtain rfl := Host.Outcome.next.inj h
    exact (one_le_of_cyclesOk hok).1
  · obtain ⟨u, hexec, _, _, hpos⟩ := cycleCountsFollowTable s.fetchInstr s
    obtain rfl : u = t := Host.Outcome.next.inj (hexec.symm.trans h)
    exact hpos hok

theorem guardBurst_cases (s : State) (caller : Caller) (spIn : Byte) (used : Nat) (pc0 : Word) :
    HostSideKept s (s.guardBurst caller spIn used pc0) ∧
      ((∃ how, (s.guardBurst caller spIn used pc0).task = .burstDone caller how) ∨
        (s.guardBurst caller spIn used pc0).task = .burst caller spIn used) := by
  unfold State.guardBurst
  split
  · exact ⟨⟨rfl, rfl, rfl, rfl, .refl _⟩, .inl ⟨_, rfl⟩⟩
  · split
    · exact ⟨⟨rfl, rfl, rfl, rfl, .refl _⟩, .inl ⟨_, rfl⟩⟩
    · exact ⟨⟨rfl, rfl, rfl, rfl, .refl _⟩, .inr rfl⟩

/-- A turn of the burst loop ends the burst, or there was budget left and more of it is used; the caller stays. -/
theorem burstStep_cases {s t : State} {caller : Caller} {spIn : Byte} {used : Nat}
    (h : s.burstStep caller spIn used = .next t) :
    HostSideKept s t ∧
      ((∃ how, t.task = .burstDone caller how) ∨
        ∃ used', t.task = .burst caller spIn used' ∧ used < s.params.maxCycles ∧
          (s.params.cyclesOk = true → used < used')) := by
  by_cases hpc : s.pc = s.params.sentinelPC
  · obtain rfl := Host.Outcome.next.inj ((burstStep_of_sentinel hpc).symm.trans h)
    exact ⟨⟨rfl, rfl, rfl, rfl, .refl _⟩, .inl ⟨_, rfl⟩⟩
  by_cases hused : s.params.maxCycles ≤ used
  · obtain rfl := Host.Outcome.next.inj ((burstStep_of_budget hpc hused).symm.trans h)
    exact ⟨⟨rfl, rfl, rfl, rfl, .refl _⟩, .inl ⟨_, rfl⟩⟩
  obtain ⟨u, hcpu⟩ := cpuStep_answers s
  unfold State.burstStep at h
  rw [if_neg hpc, if_neg hused, hcpu] at h
  obtain rfl := Host.Outcome.next.inj h
  obtain ⟨hkept, hover | hagain⟩ := guardBurst_cases u caller spIn (used + u.cycles) s.pc
  · exact ⟨(cpuStep_hostSideKept hcpu).trans hkept, .inl hover⟩
  · refine ⟨(cpuStep_hostSideKept hcpu).trans hkept, .inr ⟨_, hagain, Nat.not_le.mp hused, fun hok => ?_⟩⟩
    have := cpuStep_cycles_pos hcpu hok
    omega

theorem run_succ_of_next {M : Host.Core} {s t : M.State} (h : M.step s = .next t) (k : Nat) :
    M.run (k + 1) s = M.run k t := by
  rw [Host.Core.run, h]

theorem run_succ {s t : State} (h : step s = .next t) (k : Nat) :
    Sys2Proof.core.run (k + 1) s = Sys2Proof.core.run k t :=
  run_succ_of_next (M := Sys2Proof.core) h k

/-- By induction on the budget left, of which each turn that does not end the burst uses some. -/
theorem burst_ends {caller : Caller} {spIn : Byte} (left : Nat) :
    ∀ (s : State) (used : Nat), s.task = .burst caller spIn used → s.params.cyclesOk = true →
      s.params.maxCycles - used ≤ left →
      ∃ k t how, k ≤ left + 1 ∧ Sys2Proof.core.run k s = .next t ∧ t.task = .burstDone caller how ∧ HostSideKept s t := by
  induction left with
  | zero =>
    intro s used htask hok hleft
    obtain ⟨t, ht⟩ := burstStep_answers s caller spIn used
    obtain ⟨hkept, ⟨how, hover⟩ | ⟨_, _, hbudget, _⟩⟩ := burstStep_cases ht
    · exact ⟨1, t, how, le_rfl, run_succ ((step_burst htask).trans ht) 0, hover, hkept⟩
    · omega
  | succ left ih =>
    intro s used htask hok hleft
    obtain ⟨t, ht⟩ := burstStep_answers s caller spIn used
    have hstep := (step_burst htask).trans ht
    obtain ⟨hkept, ⟨how, hover⟩ | ⟨used', hagain, _, hmore⟩⟩ := burstStep_cases ht
    · exact ⟨1, t, how, by omega, run_succ hstep 0, hover, hkept⟩
    · have hused := hmore hok
      rw [← hkept.params] at hok hleft
      obtain ⟨k, u, how, hk, hrun, hend, hkept'⟩ := ih t used' hagain hok (by omega)
      exact ⟨k + 1, u, how, by omega, (run_succ hstep k).trans hrun, hend, hkept.trans hkept'⟩

/-- Settles O39. -/
theorem burstEndsWithinBudget : Obligations.BurstEndsWithinBudget := by
  intro s caller spIn used htask hok
  obtain ⟨k, t, how, hk, hrun, hend, hkept⟩ := burst_ends _ s used htask hok le_rfl
  exact ⟨k, t, how, hk, hrun, hend, hkept.song, hkept.play, hkept.params, hkept.ctl, hkept.engine⟩

end Sys2Proof.Machine
end

section
/-! The Playback Scheduler: timing, start(), the end of the init burst, select_subsong() and the beginning of an output frame
(49 R332 to R334, R341 to R351). -/

namespace Sys2Proof.Machine

/-! ### Timing -/

/-- Settles O42: a bit of the mask is a binary digit of it as a number, and songs from 32 on share digit 31. -/
theorem timingFollowsSpeedMask : Obligations.TimingFollowsSpeedMask := by
  intro s speed n
  refine ⟨fun h => if_pos h, fun h => ?_, ?_⟩
  · have hbit : (if n < 32 then n else 31) = min n 31 := by split <;> omega
    unfold timingOf
    rw [if_neg h, hbit]
    rfl
  · unfold State.frameRate
    cases s.play.timing <;> rfl

/-! ### start() -/

theorem callStart_of_not_loaded {s : State} (h : s.song.loaded = false) : s.callStart = .next s := by
  unfold State.callStart
  rw [h]
  rfl

/-- `start()` with a song is `stop()`, if the player is Playing, and the beginning of the init burst. -/
theorem callStart_of_loaded {s : State} (h : s.song.loaded = true) (hrate : 0 < s.params.sampleRate.toReal) :
    s.callStart = .next (if s.play.playing then s.stopPlayback else s).beginStart := by
  unfold State.callStart
  rw [if_pos h, if_pos ((Number.pos_iff _).mpr hrate)]

theorem callStart_of_playing {s : State} (h : s.song.loaded = true) (hrate : 0 < s.params.sampleRate.toReal)
    (hplaying : s.play.playing = true) : s.callStart = s.stopPlayback.callStart := by
  rw [callStart_of_loaded h hrate, if_pos hplaying, callStart_of_loaded (s := s.stopPlayback) h hrate]
  rfl

/-- The fabricated call on the default map (49 R334): the address before the sentinel lies under the stack pointer. -/
theorem fabricateCall_of_defaultMap {s : State} (h : DefaultMap s.params) (target : Word) (caller : Caller) :
    s.fabricateCall target caller =
      { s with
        mem :=
          (s.mem.write (256 + s.sp.toNat) (hiByte (s.params.sentinelPC - 1))).write (256 + (s.sp - 1).toNat)
            (loByte (s.params.sentinelPC - 1))
        sp := s.sp - 2
        pc := target
        task := .burst caller s.sp 0 } := by
  unfold State.fabricateCall
  rw [State.push16_of_defaultMap h]
  rfl

/-- What `start()` has done when it makes the call: the core's reset, the sample rate, the player's counters and timing. -/
def State.readyForCall (s : State) : State :=
  { s.coreReset with
    engine := s.engine.setSampleRate s.params.sampleRate
    play :=
      { s.play with acc := .rat 0, elapsedMs := .rat 0, timing := timingOf s.params s.song.speed s.play.subsong } }

theorem beginStart_eq (s : State) :
    s.beginStart = (s.readyForCall.fabricateCall s.song.initTarget .init).setA (BitVec.ofNat 8 s.play.subsong) := rfl

theorem beginStart_of_defaultMap {s : State} (h : DefaultMap s.params) :
    s.beginStart =
      { s with
        a := BitVec.ofNat 8 s.play.subsong
        x := s.params.resetX
        y := s.params.resetY
        sp := s.params.resetSP - 2
        p := s.params.resetP
        pc := s.song.initTarget
        mem :=
          (s.mem.write (256 + s.params.resetSP.toNat) (hiByte (s.params.sentinelPC - 1))).write
            (256 + (s.params.resetSP - 1).toNat) (loByte (s.params.sentinelPC - 1))
        engine := s.engine.setSampleRate s.params.sampleRate
        play :=
          { s.play with
            acc := .rat 0, elapsedMs := .rat 0, timing := timingOf s.params s.song.speed s.play.subsong }
        task := .burst .init s.params.resetSP 0 } := by
  rw [beginStart_eq, fabricateCall_of_defaultMap (s := s.readyForCall) h]
  rfl

/-- Settles O40. -/
theorem startEntersInitRoutine : Obligations.StartEntersInitRoutine := by
  intro s
  refine ⟨callStart_of_not_loaded, callStart_of_playing, fun hloaded hrate hstopped hmap => ?_⟩
  refine (callStart_of_loaded hloaded hrate).trans ?_
  rw [hstopped, if_neg Bool.false_ne_true, beginStart_of_defaultMap hmap]
  rfl

/-! ### select_subsong() -/

/-- The subsong is selected, with its timing (49 R349). -/
def State.withSubsong (s : State) (n : Nat) : State :=
  { s with play := { s.play with subsong := n, timing := timingOf s.params s.song.speed n } }

theorem callSelectSubsong_of_rejected {s : State} {n : Nat} (h : s.song.loaded = false ∨ max s.song.songs.toNat 1 ≤ n) :
    s.callSelectSubsong n = .next s := by
  refine if_neg ?_
  rw [Bool.and_eq_true, decide_eq_true_eq]
  rintro ⟨hloaded, hn⟩
  rcases h with h | h
  · exact Bool.false_ne_true (h.symm.trans hloaded)
  · omega

theorem callSelectSubsong_of_accepted {s : State} {n : Nat} (hloaded : s.song.loaded = true)
    (hn : n < max s.song.songs.toNat 1) :
    s.callSelectSubsong n =
      if s.play.playing then (s.withSubsong n).callStart else .next (s.withSubsong n) := by
  refine if_pos ?_
  rw [hloaded, decide_eq_true hn]
  rfl

/-- Settles O46. -/
theorem selectSubsongTakesEffect : Obligations.SelectSubsongTakesEffect := by
  intro s n
  refine ⟨callSelectSubsong_of_rejected, fun hloaded hn hstopped => ?_, fun hloaded hn hplaying hrate => ?_⟩
  · refine (callSelectSubsong_of_accepted hloaded hn).trans ?_
    rw [hstopped]
    rfl
  · refine (callSelectSubsong_of_accepted hloaded hn).trans ?_
    rw [if_pos hplaying]
    exact callStart_of_playing (s := s.withSubsong n) hloaded hrate hplaying

/-! ### The end of a burst -/

theorem step_burstDone {s : State} {caller : Caller} {how : BurstEnd} (h : s.task = .burstDone caller how) :
    step s = .next (s.afterBurst caller) := by
  unfold step State.subStep
  rw [h]

theorem SongInfo.contains_iff (song : SongInfo) (a : Word) :
    song.contains a = true ↔ song.loadAddr.toNat ≤ a.toNat ∧ a.toNat < song.loadEnd := by
  unfold SongInfo.contains
  rw [Bool.and_eq_true, decide_eq_true_eq, decide_eq_true_eq]

/-- `Discover()` with two vectors: the first that points into the program, else 0 (49 R341). -/
theorem discover_of_two {s : State} {v0 v1 : Word} (h : s.params.vecSearch = [v0, v1]) :
    s.discover =
      if s.song.contains (s.vectorAt v0) then s.vectorAt v0
      else if s.song.contains (s.vectorAt v1) then s.vectorAt v1
      else 0 := by
  unfold State.discover
  rw [h]
  rw [List.map_cons, List.map_cons, List.map_nil, List.find?_cons, List.find?_cons, List.find?_nil]
  cases s.song.contains (s.vectorAt v0)
  · cases s.song.contains (s.vectorAt v1) <;> rfl
  · rfl

/-- Settles O41. -/
theorem initBurstEndAdoptsPlayAddress : Obligations.InitBurstEndAdoptsPlayAddress := by
  intro s how v0 v1 htask hvectors w0 w1 inProgram eff
  have heff : s.playAddress = eff := by
    unfold State.playAddress
    rw [discover_of_two hvectors]
    simp only [SongInfo.contains_iff]
    exact (ite_not _ _ _).symm
  refine (step_burstDone htask).trans (congrArg Host.Outcome.next ?_)
  change s.finishStart = _
  unfold State.finishStart
  rw [heff]
  split <;> rfl

/-! ### The beginning of an output frame -/

theorem step_frame {s : State} {left : Nat} (h : s.task = .frame left) : step s = .next (s.frameStep left) := by
  unfold step State.subStep
  rw [h]

/-- The accumulator with the output frame counted (49 R344). -/
def State.countedAcc (s : State) : Number := s.params.num.add s.play.acc (.rat 1)

/-- The accumulator that has reached `spf`, less `spf` (49 R344). -/
def State.takenAcc (s : State) : Number := s.params.num.sub s.countedAcc s.samplesPerFrame

/-- The state with another value of the accumulator. -/
def State.withAcc (s : State) (x : Number) : State := { s with play := { s.play with acc := x } }

/-- The elapsed time at the end of a chip frame (49 R344). -/
def State.elapsedAfter (s : State) : Number :=
  s.params.num.add s.play.elapsedMs (s.params.num.div (.rat 1000) s.frameRate)

/-- The callbacks at the end of a chip frame (49 R347). -/
def State.callbacksAfter (s : State) : List (Nat × Number) :=
  if s.ctl.callbackBound then (s.play.subsong, s.elapsedAfter) :: s.callbacks else s.callbacks

theorem chipFrameEnd_eq (s : State) :
    s.chipFrameEnd =
      { s with play := { s.play with elapsedMs := s.elapsedAfter }, callbacks := s.callbacksAfter } := rfl

section
variable {s : State} {left : Nat}

theorem frameStep_of_stopped (h : s.play.playing = false) : s.frameStep left = { s with task := .sample left } := by
  unfold State.frameStep
  rw [h]
  rfl

theorem frameStep_of_lt (h : s.play.playing = true) (hacc : s.countedAcc.toReal < s.samplesPerFrame.toReal) :
    s.frameStep left = { s with play := { s.play with acc := s.countedAcc }, task := .sample left } := by
  have hle : ¬ s.samplesPerFrame.le s.countedAcc = true := fun c => absurd ((Number.le_iff _ _).mp c) hacc.not_ge
  unfold State.frameStep
  exact (if_pos h).trans (if_neg hle)

theorem frameStep_of_le (h : s.play.playing = true) (hacc : s.samplesPerFrame.toReal ≤ s.countedAcc.toReal) :
    s.frameStep left =
      if s.play.playEff = 0 then
        { s with
          play := { s.play with acc := s.takenAcc, elapsedMs := s.elapsedAfter }
          callbacks := s.callbacksAfter
          task := .sample left }
      else
        (s.withAcc s.takenAcc).fabricateCall s.play.playEff (.play left) := by
  have hle : s.samplesPerFrame.le s.countedAcc = true := (Number.le_iff _ _).mpr hacc
  unfold State.frameStep
  refine ((if_pos h).trans (if_pos hle)).trans ?_
  exact ite_not _ _ _

end

/-- Settles O43. -/
theorem outputFrameBeginsAsStated : Obligations.OutputFrameBeginsAsStated := by
  intro s left num spf acc elapsed called
  refine ⟨fun htask hstopped => ?_, fun htask hplaying hacc => ?_, fun htask hplaying hacc hnone => ?_,
    fun htask hplaying hacc hsome hmap => ?_, fun how htask => ?_⟩
  · rw [step_frame htask, frameStep_of_stopped hstopped]
  · rw [step_frame htask, frameStep_of_lt hplaying hacc]
    rfl
  · rw [step_frame htask, frameStep_of_le hplaying hacc, if_pos hnone]
    rfl
  · rw [step_frame htask, frameStep_of_le hplaying hacc, if_neg hsome]
    exact congrArg Host.Outcome.next (fabricateCall_of_defaultMap (s := s.withAcc s.takenAcc) hmap _ _)
  · rw [step_burstDone htask, State.afterBurst, chipFrameEnd_eq]
    rfl

end Sys2Proof.Machine
end

section
/-! The Song Loader: when load() fails, and what a successful one leaves (70 R405, R411 to R416). -/

namespace Sys2Proof.Machine

/-! ### The fields of the file -/

theorem be16_toNat (file : List Byte) (o : Nat) :
    (be16 file o).toNat = 256 * (byteAt file o).toNat + (byteAt file (o + 1)).toNat := wordOf_toNat _ _

theorem be16_eq_zero_iff (file : List Byte) (o : Nat) :
    be16 file o = 0 ↔ byteAt file o = 0 ∧ byteAt file (o + 1) = 0 := by
  have hfield := be16_toNat file o
  bv_omega

theorem detect_iff (file : List Byte) :
    detect file = true ↔ file.take 4 = [0x50, 0x53, 0x49, 0x44] ∨ file.take 4 = [0x52, 0x53, 0x49, 0x44] := by
  unfold detect
  rw [Bool.or_eq_true, decide_eq_true_eq, decide_eq_true_eq]

/-! ### The image of a file -/

section
variable {p : Params} {file : List Byte}

theorem parseImage_of_unaccepted (h : file.length < p.headerSize ∨ detect file = false) : parseImage p file = none := by
  refine if_pos ?_
  rw [Bool.or_eq_true, decide_eq_true_eq, Bool.not_eq_true']
  exact h

/-- The first test of the loader, passed (70 R412). -/
theorem not_refused (hsize : p.headerSize ≤ file.length) (hmagic : detect file = true) :
    ¬ (decide (file.length < p.headerSize) || !detect file) = true := by
  rw [hmagic, decide_eq_false (Nat.not_lt.mpr hsize)]
  exact Bool.false_ne_true

theorem parseImage_of_field (hsize : p.headerSize ≤ file.length) (hmagic : detect file = true)
    (hfield : be16 file 0x08 ≠ 0) :
    parseImage p file = some { base := be16 file 0x08, bytes := file.drop (payloadOffset p file) } := by
  unfold parseImage
  rw [if_neg (not_refused hsize hmagic), if_neg hfield]

/-- The embedded load address is the first two bytes of the payload, low byte first, where there are two. -/
theorem parseImage_of_embedded (hsize : p.headerSize ≤ file.length) (hmagic : detect file = true)
    (hfield : be16 file 0x08 = 0) (hroom : payloadOffset p file + 2 ≤ file.length) :
    parseImage p file =
      some
        { base := wordOf (byteAt file (payloadOffset p file + 1)) (byteAt file (payloadOffset p file))
          bytes := file.drop (payloadOffset p file + 2) } := by
  unfold parseImage byteAt
  rw [if_neg (not_refused hsize hmagic), if_pos hfield, List.drop_eq_getElem_cons (by omega),
    List.drop_eq_getElem_cons (by omega), List.getD_eq_getElem _ _ (by omega), List.getD_eq_getElem _ _ (by omega)]

theorem parseImage_of_short_payload (hsize : p.headerSize ≤ file.length) (hmagic : detect file = true)
    (hfield : be16 file 0x08 = 0) (hroom : file.length < payloadOffset p file + 2) : parseImage p file = none := by
  have hlength : (file.drop (payloadOffset p file)).length < 2 := by
    rw [List.length_drop]
    omega
  unfold parseImage
  rw [if_neg (not_refused hsize hmagic), if_pos hfield]
  split
  · rename_i hdrop
    rw [hdrop, List.length_cons, List.length_cons] at hlength
    omega
  · rfl
  · rfl

end

/-! ### Failure -/

theorem callLoad_of_none {s : State} {file : List Byte} (h : parseImage s.params file = none) :
    s.callLoad file = { s with events := .loadError :: s.events, loadResult := some false } := by
  unfold State.callLoad
  rw [h]
  rfl

theorem callLoad_of_some {s : State} {file : List Byte} {img : Image} (h : parseImage s.params file = some img) :
    s.callLoad file = s.loadImage file img := by
  unfold State.callLoad
  rw [h]

/-- Settles O47: each of the three faults makes `parseImage` fail, and without them it gives an image. -/
theorem loadFailsOnlyOnBadFiles : Obligations.LoadFailsOnlyOnBadFiles := by
  intro s file byte off start bad
  have hstart : payloadOffset s.params file = start := by
    unfold payloadOffset
    rw [be16_toNat]
    rfl
  have hfield := be16_eq_zero_iff file 0x08
  have hloaded {img : Image} (h : parseImage s.params file = some img) :
      ∃ t, s.beginCall (.load file) = .next t ∧ t.loadResult = some true :=
    ⟨_, congrArg Host.Outcome.next (callLoad_of_some h), rfl⟩
  refine ⟨fun hbad => congrArg Host.Outcome.next (callLoad_of_none ?_), fun hgood => ?_⟩
  · by_cases hok : s.params.headerSize ≤ file.length ∧ detect file = true
    · obtain ⟨hsize, hmagic⟩ := hok
      rcases hbad with hshort | hwrong | ⟨h8, h9, hroom⟩
      · omega
      · exact absurd ((detect_iff file).mp hmagic) (not_or.mpr hwrong)
      · exact parseImage_of_short_payload hsize hmagic (hfield.mpr ⟨h8, h9⟩) (hstart ▸ hroom)
    · refine parseImage_of_unaccepted ?_
      rwa [not_and_or, Nat.not_le, Bool.not_eq_true] at hok
  · obtain ⟨hsize, hrest⟩ := not_or.mp hgood
    obtain ⟨hmagic, hroom⟩ := not_or.mp hrest
    have hsize := Nat.not_lt.mp hsize
    have hmagic : detect file = true := (detect_iff file).mpr (by rwa [not_and_or, not_not, not_not] at hmagic)
    by_cases h : be16 file 0x08 = 0
    · obtain ⟨h8, h9⟩ := hfield.mp h
      exact hloaded (parseImage_of_embedded hsize hmagic h (hstart ▸ Nat.not_lt.mp fun hlt => hroom ⟨h8, h9, hlt⟩))
    · exact hloaded (parseImage_of_field hsize hmagic h)

/-! ### Success -/

/-- The image of an accepted file, in both forms of its load address. -/
theorem parseImage_of_good {p : Params} {file : List Byte} (hsize : p.headerSize ≤ file.length)
    (hmagic : detect file = true) (hroom : be16 file 0x08 = 0 → payloadOffset p file + 2 ≤ file.length) :
    parseImage p file =
      some
        { base :=
            if be16 file 0x08 = 0 then
              wordOf (byteAt file (payloadOffset p file + 1)) (byteAt file (payloadOffset p file))
            else be16 file 0x08
          bytes := file.drop (if be16 file 0x08 = 0 then payloadOffset p file + 2 else payloadOffset p file) } := by
  split
  · rename_i h
    exact parseImage_of_embedded hsize hmagic h (hroom h)
  · rename_i h
    exact parseImage_of_field hsize hmagic h

/-- Below the copied length the image's bytes stand from its base on. -/
theorem read_ofImage_copied (img : Image) {k : Nat} (h : k < img.copied) :
    (Memory.ofImage img.base.toNat img.bytes).read (img.base.toNat + k) = img.bytes.getD k 0 := by
  unfold Image.copied at h
  rw [Memory.read_ofImage, if_pos (by omega), Nat.add_sub_cancel_left]

/-- Below the base and from the end of the copied bytes on, memory is zero. -/
theorem read_ofImage_outside (img : Image) {a : Nat} (h : a < img.base.toNat ∨ img.base.toNat + img.copied ≤ a) :
    (Memory.ofImage img.base.toNat img.bytes).read a = 0x00 := by
  unfold Image.copied at h
  rw [Memory.read_ofImage]
  split
  · exact List.getD_eq_default _ _ (by omega)
  · rfl

/-- Settles O48: the image that the loader parses is the payload at the load address. -/
theorem loadCopiesImage : Obligations.LoadCopiesImage := by
  intro s file byte field text size off embedded base payload n start hsize hmagic hroom
  have himage : parseImage s.params file = some { base := base, bytes := payload } :=
    parseImage_of_good hsize ((detect_iff file).mpr hmagic) hroom
  refine ⟨_, congrArg Host.Outcome.next (callLoad_of_some himage), fun k => read_ofImage_copied ⟨base, payload⟩,
    fun a => read_ofImage_outside ⟨base, payload⟩, Memory.ofImage_wf _ _, ?_⟩
  exact ⟨rfl, rfl, rfl, rfl, rfl, rfl, rfl, rfl, rfl, rfl, rfl⟩

end Sys2Proof.Machine
end

section
/-! The frame accumulator (49 R344 to R348): its bounds, kept by every step, and the output frames that it and the chip frames
account for. -/

namespace Sys2Proof.Machine

/-! ### The frame rate and the samples per chip frame -/

theorem frameRate_congr {s t : State} (hparams : t.params = s.params) (htiming : t.play.timing = s.play.timing) :
    t.frameRate = s.frameRate := by
  unfold State.frameRate
  rw [hparams, htiming]

theorem samplesPerFrame_congr {s t : State} (hparams : t.params = s.params) (htiming : t.play.timing = s.play.timing) :
    t.samplesPerFrame = s.samplesPerFrame := by
  unfold State.samplesPerFrame
  rw [hparams, frameRate_congr hparams htiming]

section
variable {s : State}

/-- What holds of both frame rates holds of the one in effect (49 R333). -/
theorem frameRate_of_both {P : Number → Prop} (hslow : P s.params.frameRateSlow) (hfast : P s.params.frameRateFast) :
    P s.frameRate := by
  unfold State.frameRate
  cases s.play.timing
  · exact hslow
  · exact hfast

theorem frameRate_mem (s : State) : s.frameRate ∈ [s.params.frameRateSlow, s.params.frameRateFast] :=
  frameRate_of_both (P := (· ∈ _)) List.mem_cons_self (List.mem_cons_of_mem _ List.mem_cons_self)

theorem frameRate_pos (hslow : 0 < s.params.frameRateSlow.toReal) (hfast : 0 < s.params.frameRateFast.toReal) :
    0 < s.frameRate.toReal :=
  frameRate_of_both (P := fun rate => 0 < rate.toReal) hslow hfast

theorem RatesOk.frameRate_bounds (h : RatesOk s.params) :
    0 < s.frameRate.toReal ∧ s.frameRate.toReal ≤ s.params.sampleRate.toReal := by
  obtain ⟨hslow, hfast, hslowLe, hfastLe⟩ := h
  exact ⟨frameRate_pos hslow hfast, frameRate_of_both (P := fun rate => rate.toReal ≤ _) hslowLe hfastLe⟩

theorem samplesPerFrame_of_exact (hnum : s.params.num = .exact) (hrate : 0 < s.frameRate.toReal) :
    s.samplesPerFrame.toReal = s.params.sampleRate.toReal / s.frameRate.toReal := by
  unfold State.samplesPerFrame
  rw [hnum, numDomain_div_exact, Number.toReal_div_of_ne _ hrate.ne']

/-- In every domain that counts exactly, `spf` is the quotient of the rates (49 R345). -/
theorem samplesPerFrame_toReal (hcounts : CountsExactly s.params) (hrates : RatesOk s.params) :
    s.samplesPerFrame.toReal = s.params.sampleRate.toReal / s.frameRate.toReal := by
  rcases hcounts with hnum | hwhole
  · exact samplesPerFrame_of_exact hnum hrates.frameRate_bounds.1
  · obtain ⟨k, _, hquotient, hheld⟩ := hwhole _ (frameRate_mem s)
    unfold State.samplesPerFrame
    rw [hheld, hquotient, Number.toReal_nat]

/-- At either frame rate a chip frame has at least one output frame. -/
theorem one_le_samplesPerFrame (hcounts : CountsExactly s.params) (hrates : RatesOk s.params) :
    1 ≤ s.samplesPerFrame.toReal := by
  rw [samplesPerFrame_toReal hcounts hrates, one_le_div hrates.frameRate_bounds.1]
  exact hrates.frameRate_bounds.2

end

/-! ### The accumulator's arithmetic is exact -/

/-- A rounding domain holds the accumulator as a natural number. -/
def HeldAsNat (num : NumDomain) (x : Number) : Prop := num ≠ .exact → ∃ k : Nat, x = .nat k

theorem heldAsNat_zero (num : NumDomain) : HeldAsNat num (.rat 0) := fun _ => ⟨0, rfl⟩

/-- Over exact reals, or on natural numbers below `spf`, itself one below `2 ^ 24`. -/
theorem AccInv.exact_or_nat {s : State} (h : AccInv s) :
    s.params.num = .exact ∨
      ∃ k m : Nat, k < m ∧ m < 2 ^ 24 ∧ s.play.acc = .nat k ∧ s.samplesPerFrame = .nat m := by
  obtain ⟨hcounts, _, _, hlt, _, hnat⟩ := h
  by_cases hnum : s.params.num = .exact
  · exact .inl hnum
  · obtain ⟨k, hk⟩ := hnat hnum
    obtain ⟨m, hm, _, hheld⟩ := hcounts.resolve_left hnum _ (frameRate_mem s)
    have hspf : s.samplesPerFrame = .nat m := hheld
    rw [hk, hspf, Number.toReal_nat, Number.toReal_nat, Nat.cast_lt] at hlt
    exact .inr ⟨k, m, hlt, hm, hk, hspf⟩

theorem countedAcc_exact {s : State} (hnum : s.params.num = .exact) : s.countedAcc.toReal = s.play.acc.toReal + 1 := by
  unfold State.countedAcc
  rw [hnum, numDomain_add_exact, Number.toReal_add, Number.toReal_rat, Rat.cast_one]

theorem takenAcc_exact {s : State} (hnum : s.params.num = .exact) :
    s.takenAcc.toReal = s.play.acc.toReal + 1 - s.samplesPerFrame.toReal := by
  rw [← countedAcc_exact hnum]
  unfold State.takenAcc
  rw [hnum, numDomain_sub_exact, Number.toReal_sub]

theorem countedAcc_nat {s : State} {k : Nat} (hacc : s.play.acc = .nat k) (hk : k + 1 < 2 ^ 24) :
    s.countedAcc = .nat (k + 1) := by
  unfold State.countedAcc
  rw [hacc]
  exact numDomain_add_nat _ (l := 1) hk

/-- Counting an output frame is exact, as the sum is at most `spf`. -/
theorem AccInv.countedAcc {s : State} (h : AccInv s) :
    s.countedAcc.toReal = s.play.acc.toReal + 1 ∧ HeldAsNat s.params.num s.countedAcc := by
  rcases h.exact_or_nat with hnum | ⟨k, m, hkm, hm, hacc, _⟩
  · exact ⟨countedAcc_exact hnum, fun hne => absurd hnum hne⟩
  · rw [countedAcc_nat hacc (by omega), hacc, Number.toReal_nat, Number.toReal_nat, Nat.cast_add_one]
    exact ⟨rfl, fun _ => ⟨_, rfl⟩⟩

/-- Taking `spf` from an accumulator that has reached it is exact. -/
theorem AccInv.takenAcc {s : State} (h : AccInv s) (hle : s.samplesPerFrame.toReal ≤ s.countedAcc.toReal) :
    s.takenAcc.toReal = s.play.acc.toReal + 1 - s.samplesPerFrame.toReal ∧ HeldAsNat s.params.num s.takenAcc := by
  rcases h.exact_or_nat with hnum | ⟨k, m, hkm, hm, hacc, hspf⟩
  · exact ⟨takenAcc_exact hnum, fun hne => absurd hnum hne⟩
  · have hcounted := countedAcc_nat hacc (by omega)
    rw [hcounted, hspf, Number.toReal_nat, Number.toReal_nat, Nat.cast_le] at hle
    rw [← h.countedAcc.1]
    unfold State.takenAcc
    rw [hcounted, hspf, numDomain_sub_nat _ hle (by omega), Number.toReal_nat, Number.toReal_nat, Number.toReal_nat,
      Nat.cast_sub hle]
    exact ⟨rfl, fun _ => ⟨_, rfl⟩⟩

/-! ### What a step does to the accumulator -/

/-- The moves of the accumulator: it stays as it is, and the player does not stop; it is zeroed; the timing changes under a
Stopped player; an output frame is counted, and no chip frame begins, or one does. -/
inductive AccMove (s t : State) : Prop
  | kept (hacc : t.play.acc = s.play.acc) (htiming : t.play.timing = s.play.timing)
      (hstopped : t.play.playing = false → s.play.playing = false)
  | zeroed (hacc : t.play.acc = .rat 0)
  | retimed (hstopped : s.play.playing = false) (hacc : t.play.acc = s.play.acc)
  | counted (hplaying : t.play.playing = true) (htiming : t.play.timing = s.play.timing)
      (hlt : s.countedAcc.toReal < s.samplesPerFrame.toReal) (hacc : t.play.acc = s.countedAcc)
  | taken (hplaying : t.play.playing = true) (htiming : t.play.timing = s.play.timing)
      (hle : s.samplesPerFrame.toReal ≤ s.countedAcc.toReal) (hacc : t.play.acc = s.takenAcc)

theorem AccMove.of_play {s t : State} (h : t.play = s.play) : AccMove s t :=
  .kept (by rw [h]) (by rw [h]) (by rw [h]; exact id)

@[simp] theorem fabricateCall_play (s : State) (target : Word) (caller : Caller) :
    (s.fabricateCall target caller).play = s.play := by
  simp [State.fabricateCall, State.push16]

@[simp] theorem fabricateCall_params (s : State) (target : Word) (caller : Caller) :
    (s.fabricateCall target caller).params = s.params := by
  simp [State.fabricateCall]

theorem beginStart_acc (s : State) : s.beginStart.play.acc = .rat 0 := by
  rw [beginStart_eq, State.setA_play, fabricateCall_play]
  rfl

/-- `start()` with a song begins with the accumulator at 0, or is refused. -/
theorem callStart_acc {s t : State} (hloaded : s.song.loaded = true) (h : s.callStart = .next t) :
    t.play.acc = .rat 0 := by
  unfold State.callStart at h
  rw [if_pos hloaded] at h
  split at h
  · obtain rfl := Host.Outcome.next.inj h
    exact beginStart_acc _
  · cases h

theorem callStart_accMove {s t : State} (h : s.callStart = .next t) : AccMove s t := by
  cases hloaded : s.song.loaded
  · obtain rfl := Host.Outcome.next.inj ((callStart_of_not_loaded hloaded).symm.trans h)
    exact .of_play rfl
  · exact .zeroed (callStart_acc hloaded h)

/-- A new timing comes with a restart while Playing. -/
theorem callSelectSubsong_accMove {s t : State} {n : Nat} (h : s.callSelectSubsong n = .next t) : AccMove s t := by
  by_cases haccepted : s.song.loaded = true ∧ n < max s.song.songs.toNat 1
  · obtain ⟨hloaded, hn⟩ := haccepted
    rw [callSelectSubsong_of_accepted hloaded hn] at h
    split at h
    · exact .zeroed (callStart_acc (s := s.withSubsong n) hloaded h)
    · rename_i hstopped
      obtain rfl := Host.Outcome.next.inj h
      exact .retimed (Bool.not_eq_true _ ▸ hstopped) rfl
  · rw [not_and_or, Bool.not_eq_true, Nat.not_lt] at haccepted
    obtain rfl := Host.Outcome.next.inj ((callSelectSubsong_of_rejected haccepted).symm.trans h)
    exact .of_play rfl

theorem callProcess_play {s t : State} {count : Nat} (h : s.callProcess count = .next t) : t.play = s.play := by
  unfold State.callProcess at h
  split at h
  · obtain rfl := Host.Outcome.next.inj h
    rfl
  · cases h

theorem callLoad_accMove (s : State) (file : List Byte) : AccMove s (s.callLoad file) := by
  unfold State.callLoad
  split
  · exact .zeroed rfl
  · exact .of_play rfl

theorem beginCall_accMove {s t : State} {c : HostCall} (h : s.beginCall c = .next t) : AccMove s t := by
  cases c with
  | load file => obtain rfl := Host.Outcome.next.inj h; exact callLoad_accMove s file
  | start => exact callStart_accMove h
  | stop => obtain rfl := Host.Outcome.next.inj h; exact .zeroed rfl
  | process => exact .of_play (callProcess_play h)
  | selectSubsong => exact callSelectSubsong_accMove h
  | setMute | setGain | setLoopDetectionDisabled | bindCallback =>
    obtain rfl := Host.Outcome.next.inj h
    exact .of_play rfl

/-- Taking a call from the queue does not touch the player. -/
theorem idleStep_accMove {s t : State} (h : s.idleStep = .next t) : AccMove s t := by
  unfold State.idleStep at h
  split at h
  · obtain rfl := Host.Outcome.next.inj h
    exact .of_play rfl
  · cases beginCall_accMove h with
    | kept hacc htiming hstopped => exact .kept hacc htiming hstopped
    | zeroed hacc => exact .zeroed hacc
    | retimed hstopped hacc => exact .retimed hstopped hacc
    | counted hplaying htiming hlt hacc => exact .counted hplaying htiming hlt hacc
    | taken hplaying htiming hle hacc => exact .taken hplaying htiming hle hacc

theorem frameStep_accMove (s : State) (left : Nat) : AccMove s (s.frameStep left) := by
  cases hplaying : s.play.playing
  · rw [frameStep_of_stopped hplaying]
    exact .of_play rfl
  rcases lt_or_ge s.countedAcc.toReal s.samplesPerFrame.toReal with hlt | hle
  · rw [frameStep_of_lt hplaying hlt]
    exact .counted hplaying rfl hlt rfl
  · rw [frameStep_of_le hplaying hle]
    split
    · exact .taken hplaying rfl hle rfl
    · refine .taken ?_ ?_ hle ?_ <;> rw [fabricateCall_play]
      · exact hplaying
      · rfl
      · rfl

theorem afterBurst_accMove (s : State) (caller : Caller) : AccMove s (s.afterBurst caller) := by
  cases caller with
  | init => exact .kept rfl rfl fun h => Bool.noConfusion h
  | play left => exact .kept rfl rfl id

theorem step_accMove {s t : State} (h : step s = .next t) : AccMove s t := by
  unfold step State.subStep at h
  split at h
  · exact idleStep_accMove h
  · exact .of_play (burstStep_cases h).1.play
  · obtain rfl := Host.Outcome.next.inj h
    exact afterBurst_accMove s _
  · obtain rfl := Host.Outcome.next.inj h
    exact frameStep_accMove s _
  · obtain rfl := Host.Outcome.next.inj h
    exact .of_play rfl

theorem Move.params {s t : State} (h : Move s t) : t.params = s.params := by
  cases h with
  | other h => exact h.params
  | write a v => exact State.memWrite_params s a v
  | status | coreReset | load | engine => rfl

theorem step_params {s t : State} (h : step s = .next t) : t.params = s.params :=
  (step_moves h).keeps (P := fun u => u.params = s.params) (fun hu hm => hm.params.trans hu) rfl

/-! ### The bounds -/

theorem AccInv.move {s t : State} (hs : AccInv s) (hparams : t.params = s.params) (h : AccMove s t) : AccInv t := by
  obtain ⟨hcounted, hcountedNat⟩ := hs.countedAcc
  have htaken := hs.takenAcc
  obtain ⟨hcounts, hrates, hnonneg, hlt, hzero, hnat⟩ := hs
  have hspf := one_le_samplesPerFrame hcounts hrates
  rw [← hparams] at hcounts hrates hnat hcountedNat htaken
  have hspf' := one_le_samplesPerFrame hcounts hrates
  refine ⟨hcounts, hrates, ?_⟩
  cases h with
  | kept hacc htiming hstopped =>
    rw [hacc, samplesPerFrame_congr hparams htiming]
    exact ⟨hnonneg, hlt, fun h => hzero (hstopped h), hnat⟩
  | zeroed hacc =>
    rw [hacc, Number.toReal_rat, Rat.cast_zero]
    exact ⟨le_rfl, by linarith, fun _ => rfl, heldAsNat_zero _⟩
  | retimed hstopped hacc =>
    rw [hacc, hzero hstopped]
    exact ⟨le_rfl, by linarith, fun _ => rfl, hnat⟩
  | counted hplaying htiming hbelow hacc =>
    rw [hacc, samplesPerFrame_congr hparams htiming]
    exact ⟨by linarith, hbelow, fun h => absurd hplaying (h ▸ Bool.false_ne_true), hcountedNat⟩
  | taken hplaying htiming hle hacc =>
    obtain ⟨hreal, htakenNat⟩ := htaken hle
    rw [hacc, samplesPerFrame_congr hparams htiming, hreal]
    exact ⟨by linarith, by linarith, fun h => absurd hplaying (h ▸ Bool.false_ne_true), htakenNat⟩

/-- Settles O36: each move of the accumulator keeps the invariant. -/
theorem everyStepKeepsAccumulatorBounds : Obligations.EveryStepKeepsAccumulatorBounds :=
  fun _ _ hs h => hs.move (step_params h) (step_accMove h)

/-! ### Chip frames and the elapsed time -/

/-- The frames accounted for, with the rates of a state of the same timing. -/
theorem framesAccounted_of {s t : State} {acc elapsed : Number} {chip : Bool} (hparams : t.params = s.params)
    (htiming : t.play.timing = s.play.timing) (hacc : t.play.acc = acc) (helapsed : t.play.elapsedMs = elapsed)
    (hopen : chipFrameOpen t = chip) :
    framesAccounted t =
      acc.toReal +
        s.samplesPerFrame.toReal * (elapsed.toReal * s.frameRate.toReal / 1000 + if chip then 1 else 0) := by
  unfold framesAccounted
  rw [frameRate_congr hparams htiming, samplesPerFrame_congr hparams htiming, hacc, helapsed, hopen]

theorem framesAccounted_congr {s t : State} (hparams : t.params = s.params) (hplay : t.play = s.play)
    (hopen : chipFrameOpen t = chipFrameOpen s) : framesAccounted t = framesAccounted s := by
  have htiming : t.play.timing = s.play.timing := by rw [hplay]
  unfold framesAccounted
  rw [frameRate_congr hparams htiming, samplesPerFrame_congr hparams htiming, hplay, hopen]

section
variable {s : State}

theorem chipFrameOpen_burst {left used : Nat} {spIn : Byte} (h : s.task = .burst (.play left) spIn used) :
    chipFrameOpen s = true := by
  unfold chipFrameOpen
  rw [h]

theorem chipFrameOpen_burstDone {left : Nat} {how : BurstEnd} (h : s.task = .burstDone (.play left) how) :
    chipFrameOpen s = true := by
  unfold chipFrameOpen
  rw [h]

theorem chipFrameOpen_idle (h : s.task = .idle) : chipFrameOpen s = false := by
  unfold chipFrameOpen
  rw [h]

theorem chipFrameOpen_frame {left : Nat} (h : s.task = .frame left) : chipFrameOpen s = false := by
  unfold chipFrameOpen
  rw [h]

theorem chipFrameOpen_sample {left : Nat} (h : s.task = .sample left) : chipFrameOpen s = false := by
  unfold chipFrameOpen
  rw [h]

/-- Over exact reals the end of a chip frame adds one frame's time to the elapsed time (49 R344). -/
theorem elapsedAfter_frames (hnum : s.params.num = .exact) (hrate : 0 < s.frameRate.toReal) :
    s.elapsedAfter.toReal * s.frameRate.toReal / 1000 = s.play.elapsedMs.toReal * s.frameRate.toReal / 1000 + 1 := by
  unfold State.elapsedAfter
  rw [hnum, numDomain_add_exact, numDomain_div_exact, Number.toReal_add, Number.toReal_div_of_ne _ hrate.ne',
    Number.toReal_rat]
  field_simp
  norm_num

/-! ### Every sub-step of process() accounts for its output frame -/

/-- The start of an output frame accounts for one: in the accumulator, or by a chip frame begun. -/
theorem frameStep_framesAccounted {left : Nat} (hnum : s.params.num = .exact) (hrate : 0 < s.frameRate.toReal)
    (htask : s.task = .frame left) (hplaying : s.play.playing = true) :
    (s.frameStep left).play.playing = true ∧ framesAccounted (s.frameStep left) = framesAccounted s + 1 := by
  have hs := framesAccounted_of (s := s) rfl rfl rfl rfl (chipFrameOpen_frame htask)
  have hcounted := countedAcc_exact hnum
  have htaken := takenAcc_exact hnum
  have htime := elapsedAfter_frames hnum hrate
  rcases lt_or_ge s.countedAcc.toReal s.samplesPerFrame.toReal with hlt | hle
  · rw [frameStep_of_lt hplaying hlt, hs]
    refine ⟨hplaying, Eq.trans (framesAccounted_of (s := s) rfl rfl rfl rfl (chipFrameOpen_sample rfl)) ?_⟩
    rw [hcounted]
    ring
  · rw [frameStep_of_le hplaying hle, hs]
    split
    · refine ⟨hplaying, Eq.trans (framesAccounted_of (s := s) (acc := s.takenAcc) (elapsed := s.elapsedAfter) rfl rfl rfl
        rfl (chipFrameOpen_sample rfl)) ?_⟩
      rw [htaken, htime]
      simp only [Bool.false_eq_true, if_false]
      ring
    · have hplay : ((s.withAcc s.takenAcc).fabricateCall s.play.playEff (.play left)).play =
          { s.play with acc := s.takenAcc } := fabricateCall_play ..
      refine ⟨by rw [hplay]; exact hplaying, Eq.trans (framesAccounted_of (s := s) (acc := s.takenAcc)
        (elapsed := s.play.elapsedMs) (fabricateCall_params ..) (by rw [hplay]) (by rw [hplay]) (by rw [hplay])
        (chipFrameOpen_burst rfl)) ?_⟩
      rw [htaken]
      simp only [Bool.false_eq_true, if_false, if_true]
      ring

/-- The end of a play burst turns the chip frame begun into its time. -/
theorem afterBurst_framesAccounted {left : Nat} {how : BurstEnd} (hnum : s.params.num = .exact)
    (hrate : 0 < s.frameRate.toReal) (htask : s.task = .burstDone (.play left) how) :
    framesAccounted (s.afterBurst (.play left)) = framesAccounted s := by
  rw [framesAccounted_of (s := s) rfl rfl rfl rfl (chipFrameOpen_burstDone htask)]
  refine Eq.trans (framesAccounted_of (s := s) (acc := s.play.acc) (elapsed := s.elapsedAfter) rfl rfl rfl rfl
    (chipFrameOpen_sample rfl)) ?_
  rw [elapsedAfter_frames hnum hrate]
  simp only [Bool.false_eq_true, if_false, if_true, add_zero]

/-- A turn of a play burst leaves the player, and the chip frame goes on. -/
theorem burstStep_framesAccounted {t : State} {left used : Nat} {spIn : Byte}
    (htask : s.task = .burst (.play left) spIn used) (h : s.burstStep (.play left) spIn used = .next t) :
    t.play = s.play ∧ framesAccounted t = framesAccounted s := by
  obtain ⟨hkept, hend⟩ := burstStep_cases h
  refine ⟨hkept.play, framesAccounted_congr hkept.params hkept.play ?_⟩
  rw [chipFrameOpen_burst htask]
  rcases hend with ⟨how, hover⟩ | ⟨used', hagain, _⟩
  · exact chipFrameOpen_burstDone hover
  · exact chipFrameOpen_burst hagain

theorem sampleStep_framesAccounted {left : Nat} (htask : s.task = .sample left) :
    framesAccounted (s.sampleStep left) = framesAccounted s := by
  refine framesAccounted_congr rfl rfl ?_
  rw [chipFrameOpen_sample htask]
  by_cases hlast : left ≤ 1
  · exact chipFrameOpen_idle (if_pos hlast)
  · exact chipFrameOpen_frame (if_neg hlast)

end

/-- Settles O37: sub-step by sub-step over exact reals, and by the exact sums of the accumulator in any domain. -/
theorem outputFramesAreAllAccountedFor : Obligations.OutputFramesAreAllAccountedFor := by
  refine ⟨fun s t hnum hslow hfast _ hplaying hprocess h => ?_, fun s t left hs hplaying htask h => ?_⟩
  · have hrate : 0 < s.frameRate.toReal := frameRate_pos hslow hfast
    rcases htask : s.task with _ | ⟨_ | left, spIn, used⟩ | ⟨_ | left, how⟩ | left | left
    case idle | burst.init | burstDone.init =>
      rw [htask] at hprocess
      cases hprocess
    case burst.play =>
      obtain ⟨hplay, hframes⟩ := burstStep_framesAccounted htask ((step_burst htask).symm.trans h)
      exact ⟨hplay ▸ hplaying, hframes.trans (add_zero _).symm⟩
    case burstDone.play =>
      obtain rfl := Host.Outcome.next.inj ((step_burstDone htask).symm.trans h)
      exact ⟨hplaying, (afterBurst_framesAccounted hnum hrate htask).trans (add_zero _).symm⟩
    case frame =>
      obtain rfl := Host.Outcome.next.inj ((step_frame htask).symm.trans h)
      exact frameStep_framesAccounted hnum hrate htask hplaying
    case sample =>
      obtain rfl := Host.Outcome.next.inj ((step_sample htask).symm.trans h)
      exact ⟨hplaying, (sampleStep_framesAccounted htask).trans (add_zero _).symm⟩
  · obtain rfl := Host.Outcome.next.inj ((step_frame htask).symm.trans h)
    have ⟨hcounts, hrates, _⟩ := hs
    rw [← hs.countedAcc.1]
    refine ⟨samplesPerFrame_toReal hcounts hrates, fun hlt => ?_, fun hle => ?_⟩
    · rw [frameStep_of_lt hplaying hlt]
      exact ⟨rfl, rfl⟩
    · obtain ⟨htaken, _⟩ := hs.takenAcc hle
      rw [hs.countedAcc.1, frameStep_of_le hplaying hle]
      split
      · exact ⟨htaken, rfl, rfl⟩
      · refine ⟨?_, rfl, rfl⟩
        rw [fabricateCall_play]
        exact htaken

end Sys2Proof.Machine
end
